-- ==== Sys2Proof/Word.lean ====
section
/-! DEFINITION. The widths of the block's values (00_scope.md R7, R9) and the names of its two lines (R11). -/

namespace Sys2Proof

/-- One byte: a segment mask, a wire byte, a character code. -/
abbrev Byte := BitVec 8

/-- The host command word CMD16 (30_encoding.md R64). -/
abbrev CmdWord := BitVec 16

/-- The internal micro-word UOP12 (30_encoding.md R76). -/
abbrev UopWord := BitVec 12

/-- The two bus lines (10_state.md R22): clock and data. -/
inductive Line where
  | clk
  | dio
deriving DecidableEq, Repr

/-- The direction of a line (00_scope.md R11): `IN` is released, `OUT` is driven low. -/
inductive Dir where
  | IN
  | OUT
deriving DecidableEq, Repr

end Sys2Proof
end

