-- ==== Sys2Proof/Config.lean ====
section
/-! DEFINITION. What an implementation fixes and the free values (00_scope.md R7, 10_state.md R21). A constant here has no
body, so no proof can see its value and every statement holds whatever it is. -/

namespace Sys2Proof

/-- BRIGHTNESS_RESET, the value of BRIGHTNESS after reset: OPEN in the spec (00_scope.md R7, 10_state.md R28).
DESIGN CHOICE, notes/assumptions/1.md; safe. -/
opaque Config.brightnessReset : BitVec 4

/-- T_UNIT in microseconds, the least time one WAIT holds (00_scope.md R7, 60_exceptions.md R145). No step reads it.
DESIGN CHOICE, notes/assumptions/11.md, that the duration is a whole number of microseconds among them;
unsafe for claims about time, and no statement rests on it. -/
opaque Config.tUnit : Nat

/-- The reference value of T_UNIT, 50 microseconds (00_scope.md R7; 90_conflicts.md C4): a default, never a fixed constant. -/
def Config.tUnitDefault : Nat := 50

/-- The level of DIO that the k-th draw of a SAMPLE reads when the environment has not fixed it: a free value
(41_line_ops.md R92, 92_eei_decisions.md D19). `true` is 1, not acknowledged. DESIGN CHOICE, notes/assumptions/2.md; safe. -/
opaque Config.drawBit : Nat → Bool

end Sys2Proof
end

