-- ==== Sys2Proof/Syntax.lean ====
section
/-! DEFINITION. The instructions: one constructor per row of spec/opcode_table.json (00_scope.md R6). -/

namespace Sys2Proof

/-- The block's instructions: the four host commands (format CMD16), the five line micro-operations and
the three transport operations (format UOP12). -/
inductive Instr where
  /-- SETBRT level (43_commands.md R107). -/
  | setbrt (level : Byte)
  /-- LDSLOT slot, mask (R108). -/
  | ldslot (slot : BitVec 2) (mask : Byte)
  /-- SETSEG len, pos (R109); legal only with len at most 4 (30_encoding.md R68). -/
  | setseg (len : BitVec 3) (pos : Byte)
  /-- CLRST (R110). -/
  | clrst
  /-- DRVLO L: drive a line low (41_line_ops.md R89). -/
  | drvlo (l : Line)
  /-- REL L: release a line (R90). -/
  | rel (l : Line)
  /-- WAIT: one timing unit (R91). -/
  | wait
  /-- SAMPLE: read DIO for the acknowledge (R92). -/
  | sample
  /-- DRVLO_IF_ACK: drive DIO low if the byte was acknowledged (R93). -/
  | drvloIfAck
  /-- START: the start condition (42_transport.md R96). -/
  | start
  /-- STOP: the stop condition (R97). -/
  | stop
  /-- WRB b: write one byte and sample its acknowledge (R98). -/
  | wrb (b : Byte)
deriving DecidableEq, Repr

end Sys2Proof
end

