-- ==== Sys2Proof/Machine/State.lean ====
section
/-! DEFINITION. The machine's state as plain data, its reset value, and the (empty or unused) reasons a step could stop. -/

namespace Sys2Proof.Machine

/-- A line micro-operation: what `uq` holds (30_encoding.md R78, 41_line_ops.md R83). -/
inductive MicroOp where
  | drvlo (l : Line)
  | rel (l : Line)
  | wait
  | sample
  | drvloIfAck
deriving DecidableEq, Repr

/-- A transport operation: what the sequencer's program for a display update is a list of (30_encoding.md R78). -/
inductive TransportOp where
  | start
  | stop
  | wrb (b : Byte)
deriving DecidableEq, Repr

/-- An event of the bus trace (00_scope.md R12). In `sample b`, `true` is 1. -/
inductive Event where
  | drive (l : Line)
  | release (l : Line)
  | wait
  | sample (b : Bool)
  | reset
deriving DecidableEq, Repr

/-- The two flags that `raise CmdError(F)` sets (00_scope.md R14, 60_exceptions.md R132). -/
inductive CmdError where
  | illegal
  | busy
deriving DecidableEq, Repr

/-- One entry of the model's fault record (60_exceptions.md R139; 95_test_vectors.md P3 shows the word). -/
structure FaultEntry where
  cause : CmdError
  word : CmdWord
deriving DecidableEq, Repr

/-- What the outside does at one step (10_state.md R43): the host presents a word, the reset source asserts reset, or neither,
so that the sequencer moves. -/
inductive Input where
  | present (w : CmdWord)
  | reset
  | idle
deriving DecidableEq, Repr

/-- The state. The spec's registers first (10_state.md R38), then what the spec asks a model to keep (R41, R139), then the
model's own fields. OUT_CLK and OUT_DIO are hardwired and have no field (R25; notes/assumptions/8.md). -/
structure State where
  /-- DIR_CLK (R23). -/
  dirClk : Dir
  /-- DIR_DIO (R24). -/
  dirDio : Dir
  /-- BRIGHTNESS (R28). -/
  brightness : BitVec 4
  /-- FRAME[0..3] (R29). -/
  frame : Vector Byte 4
  /-- ACK_LAST, STATUS bit 1 (R32); `true` is 1. -/
  ackLast : Bool
  /-- NACK_SEEN, STATUS bit 2 (R33). -/
  nackSeen : Bool
  /-- ERR_ILLEGAL, STATUS bit 3 (R34). -/
  errIllegal : Bool
  /-- ERR_BUSY, STATUS bit 4 (R35). -/
  errBusy : Bool
  /-- BRT_SET, STATUS bit 5 (R36). -/
  brtSet : Bool
  /-- `uq`, the micro-op queue, head first (R37). -/
  uq : List MicroOp
  /-- The bus trace, oldest event first (R41). -/
  trace : List Event
  /-- The fault record, oldest entry first (60_exceptions.md R139). -/
  faultRecord : List FaultEntry
  /-- The model's own: transport operations not yet expanded into `uq` (notes/assumptions/5.md). -/
  prog : List TransportOp
  /-- The model's own: what the outside does at the coming steps (notes/assumptions/3.md). -/
  inputs : List Input
  /-- The model's own: the levels the coming SAMPLEs draw, as far as the environment has fixed them (notes/assumptions/2.md). -/
  draws : List Bool
  /-- The model's own: how many draws were taken (notes/assumptions/2.md). -/
  drawCount : Nat
deriving DecidableEq, Repr

/-- The state after reset (70_reset_and_hazards.md R151): every register at the value of its table, the trace with the one
event `Reset`. BRIGHTNESS is the OPEN parameter (notes/assumptions/1.md). -/
def State.reset : State where
  dirClk := .IN
  dirDio := .IN
  brightness := Config.brightnessReset
  frame := Vector.replicate 4 0x00#8
  ackLast := true
  nackSeen := false
  errIllegal := false
  errBusy := false
  brtSet := false
  uq := []
  trace := [.reset]
  faultRecord := []
  prog := []
  inputs := []
  draws := []
  drawCount := 0

/-- No step of this hardware stops the machine: "There is no trap" (60_exceptions.md R134) and no step waits on a line
(41_line_ops.md R94), so the type has no constructor and nobody raises one. Safe (notes/assumptions/12.md). -/
inductive Fault where
deriving DecidableEq, Repr

/-- Why an instruction has no meaning. -/
inductive Refusal where
  /-- Raised by an arm of `exec` whose instruction the model does not cover; no arm of this model raises it. Safe. -/
  | notModelled (mnemonic : String)
deriving DecidableEq, Repr

end Sys2Proof.Machine
end

