-- ==== Sys2Proof/Machine/Flags.lean ====
section
/-! DEFINITION. The STATUS register (10_state.md R30-R36, R44): its assembly and every way its stored bits change. -/

namespace Sys2Proof.Machine

/-- BUSY: 1 exactly when `uq` is not empty; not a stored bit (R31). -/
def State.busy (s : State) : Bool := !s.uq.isEmpty

/-- The STATUS register as the host reads it, bits 7:6 reserved 0 (R30). Reading it is no step (R43). -/
def State.status (s : State) : Byte :=
  0#2 ++ BitVec.ofBool s.brtSet ++ BitVec.ofBool s.errBusy ++ BitVec.ofBool s.errIllegal ++
    BitVec.ofBool s.nackSeen ++ BitVec.ofBool s.ackLast ++ BitVec.ofBool s.busy

/-- What a SAMPLE of value `b` writes: ACK_LAST <- b, and NACK_SEEN <- 1 if b = 1 (R32, R33; 41_line_ops.md R92). -/
def State.recordSample (b : Bool) (s : State) : State :=
  { s with ackLast := b, nackSeen := s.nackSeen || b }

/-- Set the sticky error flag of `c` (R34, R35). -/
def State.raiseFlag (c : CmdError) (s : State) : State :=
  match c with
  | .illegal => { s with errIllegal := true }
  | .busy => { s with errBusy := true }

/-- What CLRST clears: NACK_SEEN, ERR_ILLEGAL, ERR_BUSY (43_commands.md R110). -/
def State.clearSticky (s : State) : State :=
  { s with nackSeen := false, errIllegal := false, errBusy := false }

/-- BRT_SET <- 1 (R36). -/
def State.markBrtSet (s : State) : State := { s with brtSet := true }

end Sys2Proof.Machine
end

