-- ==== Sys2Proof/WellFormed.lean ====
section
/-! DEFINITION. Which instructions are legal. The operand widths are in the types; the one condition left is the
length of SETSEG (30_encoding.md R68). -/

namespace Sys2Proof

/-- MAX_LEN, the largest legal SETSEG length (00_scope.md R7). -/
def maxLen : Nat := 4

/-- An instruction is well formed when the spec gives it a word: SETSEG with LEN in 0..4, and every other one. -/
def Instr.wellFormed : Instr → Bool
  | .setseg len _ => decide (len.toNat ≤ maxLen)
  | .setbrt _ => true
  | .ldslot _ _ => true
  | .clrst => true
  | .drvlo _ => true
  | .rel _ => true
  | .wait => true
  | .sample => true
  | .drvloIfAck => true
  | .start => true
  | .stop => true
  | .wrb _ => true

end Sys2Proof
end

