-- ==== Sys2Proof/Decode.lean ====
section
/-! DEFINITION. Decoding of the two encodings, the host command word CMD16 (30_encoding.md R65-R73) and the internal
micro-word UOP12 (R76, R77), and after it the encoder written from the same tables. -/

namespace Sys2Proof

/-- Why a word stands for no instruction. -/
inductive DecodeError where
  /-- CMD16 with an opcode outside 0x1..0x4 (R72 (a)). -/
  | opcode (op : BitVec 4)
  /-- CMD16 with a legal opcode and a reserved bit set (R72 (b)). -/
  | reservedBits
  /-- A SETSEG word with LEN in 5, 6, 7 (R72 (c)). -/
  | length (len : BitVec 3)
  /-- UOP12 with a code the sequencer never produces (R77). -/
  | uopCode (uop : BitVec 4)
  /-- UOP12 with an argument its code does not list (R77). -/
  | uopArg (arg : Byte)
deriving DecidableEq, Repr

/-- A word of one of the two encodings (R63). The wire bytes, the third encoding, are Machine/Operands.lean's. -/
inductive CodeWord where
  | cmd16 (w : CmdWord)
  | uop12 (w : UopWord)
deriving DecidableEq, Repr

/-- `v[lo+len-1 : lo]`, the unsigned field of 00_scope.md R9. -/
def field {w : Nat} (v : BitVec w) (lo len : Nat) : BitVec len := v.extractLsb' lo len

/-- OP, bits 15:12 of a host word (R65). -/
def opOf (cmd : CmdWord) : BitVec 4 := field cmd 12 4

/-- LEN, bits 10:8 of a SETSEG word (R68). -/
def lenOf (cmd : CmdWord) : BitVec 3 := field cmd 8 3

/-- Why a host word that is no command is illegal, by the cases of R72. -/
def illegalCause (cmd : CmdWord) : DecodeError :=
  if opOf cmd = 0x0#4 ∨ 5 ≤ (opOf cmd).toNat then .opcode (opOf cmd)
  else if opOf cmd = 0x3#4 ∧ (field cmd 11 1 : BitVec 1) = 0#1 then .length (lenOf cmd)
  else .reservedBits

/-- The decoding procedure of a host command word, as R71 writes it; total on all 2^16 words. -/
def decodeCmd (cmd : CmdWord) : Except DecodeError Instr :=
  if opOf cmd = 0x1#4 ∧ (field cmd 8 4 : BitVec 4) = 0#4 then .ok (.setbrt (field cmd 0 8))
  else if opOf cmd = 0x2#4 ∧ (field cmd 10 2 : BitVec 2) = 0#2 then .ok (.ldslot (field cmd 8 2) (field cmd 0 8))
  else if opOf cmd = 0x3#4 ∧ (field cmd 11 1 : BitVec 1) = 0#1 ∧ (lenOf cmd).toNat ≤ maxLen then
    .ok (.setseg (lenOf cmd) (field cmd 0 8))
  else if opOf cmd = 0x4#4 ∧ (field cmd 0 12 : BitVec 12) = 0#12 then .ok .clrst
  else .error (illegalCause cmd)

/-- The line an ARG names: 0x00 is CLK, 0x01 is DIO (R76). -/
def decodeLine (arg : Byte) : Except DecodeError Line :=
  if arg = 0x00#8 then .ok .clk else if arg = 0x01#8 then .ok .dio else .error (.uopArg arg)

/-- An instruction whose micro-word lists the single argument `want` (R77). -/
def decodeFixed (arg want : Byte) (i : Instr) : Except DecodeError Instr :=
  if arg = want then .ok i else .error (.uopArg arg)

/-- UOP, bits 11:8 of a micro-word (R76). -/
def uopOf (w : UopWord) : BitVec 4 := field w 8 4

/-- ARG, bits 7:0 of a micro-word (R76). -/
def argOf (w : UopWord) : Byte := field w 0 8

/-- The instruction a micro-word labels, by the table of R77; total on all 2^12 words. -/
def decodeUop (w : UopWord) : Except DecodeError Instr :=
  if uopOf w = 0x1#4 then (decodeLine (argOf w)).map .drvlo
  else if uopOf w = 0x2#4 then (decodeLine (argOf w)).map .rel
  else if uopOf w = 0x3#4 then decodeFixed (argOf w) 0x00#8 .wait
  else if uopOf w = 0x4#4 then decodeFixed (argOf w) 0x01#8 .sample
  else if uopOf w = 0x5#4 then decodeFixed (argOf w) 0x01#8 .drvloIfAck
  else if uopOf w = 0x8#4 then decodeFixed (argOf w) 0x00#8 .start
  else if uopOf w = 0x9#4 then decodeFixed (argOf w) 0x00#8 .stop
  else if uopOf w = 0xA#4 then .ok (.wrb (argOf w))
  else .error (.uopCode (uopOf w))

/-- The decoder: either encoding, rejecting by name. -/
def decode : CodeWord → Except DecodeError Instr
  | .cmd16 w => decodeCmd w
  | .uop12 w => decodeUop w

/-- The code word that a number stands for as spec/opcode_table.json numbers bits. A UOP12 word has bits 15:12 zero and a legal
CMD16 word has not (R72 (a)), so the two formats of the table do not overlap (notes/assumptions/9.md). -/
def tableCodeWord (nbits w : Nat) : CodeWord :=
  let v := w % 2 ^ nbits
  if v < 2 ^ 12 then .uop12 (BitVec.ofNat 12 v) else .cmd16 (BitVec.ofNat 16 v)

/-- The instruction the decoder reads from a word numbered as the opcode table numbers it. -/
def decodeTableWord (nbits w : Nat) : Option Instr :=
  if w < 2 ^ 16 then (decode (tableCodeWord nbits w)).toOption else none

/-- The ARG that names a line (R76). -/
def encodeLine : Line → Byte
  | .clk => 0x00#8
  | .dio => 0x01#8

/-- The word of an instruction, by the layouts of R66-R69 and the table of R77. -/
def encode : Instr → CodeWord
  | .setbrt level => .cmd16 (0x10#8 ++ level)
  | .ldslot slot mask => .cmd16 (0x08#6 ++ slot ++ mask)
  | .setseg len pos => .cmd16 (0x06#5 ++ len ++ pos)
  | .clrst => .cmd16 0x4000#16
  | .drvlo l => .uop12 (0x1#4 ++ encodeLine l)
  | .rel l => .uop12 (0x2#4 ++ encodeLine l)
  | .wait => .uop12 0x300#12
  | .sample => .uop12 0x401#12
  | .drvloIfAck => .uop12 0x501#12
  | .start => .uop12 0x800#12
  | .stop => .uop12 0x900#12
  | .wrb b => .uop12 (0xA#4 ++ b)

/-- The number the opcode table gives a code word: bit 0 is its least significant bit. -/
def CodeWord.toNat : CodeWord → Nat
  | .cmd16 w => w.toNat
  | .uop12 w => w.toNat

end Sys2Proof
end

