-- ==== Sys2Proof/Machine/Operands.lean ====
section
/-! DEFINITION. Operand forms: the named truncation policies (00_scope.md R17), the wire bytes (30_encoding.md R74), and how
the sequencer's operations and the instructions name each other (R77, R78). -/

namespace Sys2Proof.Machine

/-- `maskBrightness(v) = v & 0x0F = v[3:0]` (43_commands.md R107; 90_conflicts.md C1). -/
def maskBrightness (v : Byte) : BitVec 4 := field (v &&& 0x0F#8) 0 4

/-- `maskPosition(v) = v & 0x03` (43_commands.md R109), as the byte that is ORed into the address command. -/
def maskPosition (v : Byte) : Byte := v &&& 0x03#8

/-- The preamble byte, data-command 0x40 (30_encoding.md R74). -/
def preambleByte : Byte := 0x40#8

/-- The address byte `0xC0 | (pos & 0x03)` (R74). -/
def addressByte (pos : Byte) : Byte := 0xC0#8 ||| maskPosition pos

/-- The display-control byte `0x80 | b` (R74, R75: the nibble is forwarded, not interpreted). -/
def controlByte (b : BitVec 4) : Byte := 0x80#8 ||| b.zeroExtend 8

/-- The data bytes of an update: FRAME[0] up to FRAME[len-1] (20_memory.md R50). -/
def dataBytes (frame : Vector Byte 4) (len : BitVec 3) : List Byte := frame.toList.take len.toNat

/-- `v[i]`, bit i of a byte (00_scope.md R9). -/
def bitOf (v : Byte) (i : Nat) : Bool := v.getLsbD i

/-- The instruction a line micro-op of `uq` is (30_encoding.md R77). -/
def MicroOp.toInstr : MicroOp → Instr
  | .drvlo l => .drvlo l
  | .rel l => .rel l
  | .wait => .wait
  | .sample => .sample
  | .drvloIfAck => .drvloIfAck

/-- The instruction a transport operation is (30_encoding.md R77). -/
def TransportOp.toInstr : TransportOp → Instr
  | .start => .start
  | .stop => .stop
  | .wrb b => .wrb b

end Sys2Proof.Machine
end

