-- ==== Sys2Proof/Machine/Ops.lean ====
section
/-! DEFINITION. The named operations over the registers: lines, trace, draws, queue, the one error primitive (the hardware's
"exception") and reset. The block has no memory (20_memory.md R45), so there is no operation over one. -/

namespace Sys2Proof.Machine

/-- `Emit(e)`: append an event to the bus trace (00_scope.md R12). -/
def State.emit (e : Event) (s : State) : State := { s with trace := s.trace ++ [e] }

/-- DIR_L (00_scope.md R11). -/
def State.dir (l : Line) (s : State) : Dir :=
  match l with
  | .clk => s.dirClk
  | .dio => s.dirDio

/-- `DIR_L <- d`. -/
def State.setDir (l : Line) (d : Dir) (s : State) : State :=
  match l with
  | .clk => { s with dirClk := d }
  | .dio => { s with dirDio := d }

/-- OUT_L, the output-value latch: hardwired 0, and no operation writes it (10_state.md R25, 41_line_ops.md R87). -/
def State.outLatch (_l : Line) (_s : State) : BitVec 1 := 0#1

/-- `driveLow(line)`: `DIR_L <- OUT; Emit(Drive(L))` (41_line_ops.md R89). -/
def State.driveLow (l : Line) (s : State) : State := (s.setDir l .OUT).emit (.drive l)

/-- `release(line)`: `DIR_L <- IN; Emit(Release(L))` (41_line_ops.md R90). -/
def State.release (l : Line) (s : State) : State := (s.setDir l .IN).emit (.release l)

/-- `Wait()`: hold for at least T_UNIT, then `Emit(Wait)` (00_scope.md R12, R15; notes/assumptions/11.md). -/
def State.hold (s : State) : State := s.emit .wait

/-- The k-th level of DIO still to be drawn: the environment's, or a free value beyond what it has fixed
(92_eei_decisions.md D19; notes/assumptions/2.md). -/
def State.drawAt (k : Nat) (s : State) : Bool := (s.draws[k]?).getD (Config.drawBit (s.drawCount + k))

/-- Take one draw: the next `drawAt 0` is the former `drawAt 1`. -/
def State.takeDraw (s : State) : State := { s with draws := s.draws.tail, drawCount := s.drawCount + 1 }

/-- `sample(line)` on DIO (41_line_ops.md R92): 0 while the block itself holds DIO low, else a draw; then ACK_LAST and
NACK_SEEN are written and `Sample(b)` is emitted. -/
def State.sampleDio (s : State) : State :=
  match s.dirDio with
  | .OUT => (s.recordSample false).emit (.sample false)
  | .IN => (s.takeDraw.recordSample (s.drawAt 0)).emit (.sample (s.drawAt 0))

/-- `BRIGHTNESS <- v`. -/
def State.setBrightness (v : BitVec 4) (s : State) : State := { s with brightness := v }

/-- `FRAME[i]` (00_scope.md R10). -/
def State.slot (i : BitVec 2) (s : State) : Byte := s.frame[i.toNat]

/-- `FRAME[i] <- m`. -/
def State.setSlot (i : BitVec 2) (m : Byte) (s : State) : State := { s with frame := s.frame.set i.toNat m }

/-- `uq <- q` (10_state.md R37). -/
def State.setUq (q : List MicroOp) (s : State) : State := { s with uq := q }

/-- Place the micro-ops of a transport operation in `uq`, behind what is there (42_transport.md, opening paragraph;
notes/assumptions/6.md). -/
def State.enqueue (q : List MicroOp) (s : State) : State := { s with uq := s.uq ++ q }

/-- The model's own program of transport operations (notes/assumptions/5.md). -/
def State.setProg (p : List TransportOp) (s : State) : State := { s with prog := p }

/-- What the outside does at the coming steps (notes/assumptions/3.md). -/
def State.setInputs (is : List Input) (s : State) : State := { s with inputs := is }

/-- Add an entry to the fault record (60_exceptions.md R139). -/
def State.recordFault (e : FaultEntry) (s : State) : State := { s with faultRecord := s.faultRecord ++ [e] }

/-- `raise CmdError(F)`, the only form of exception the hardware has (00_scope.md R14, 60_exceptions.md R134): the word is
dropped with no other effect, sticky flag F is set, and the model's fault record gets its entry (R139). Nothing is saved and
nothing jumps; there is no return from it (R135). -/
def State.raiseCmdError (c : CmdError) (w : CmdWord) (s : State) : State :=
  (s.raiseFlag c).recordFault { cause := c, word := w }

/-- The reset step (70_reset_and_hazards.md R151): every register to its reset value, any update abandoned, `Reset` emitted. The
trace and the fault record are kept (R139; notes/assumptions/7.md), and so is what the outside will still do. -/
def State.resetStep (s : State) : State :=
  { State.reset with
    trace := s.trace ++ [.reset]
    faultRecord := s.faultRecord
    inputs := s.inputs
    draws := s.draws
    drawCount := s.drawCount }

end Sys2Proof.Machine
end

