-- ==== Sys2Proof/Machine/Transport.lean ====
section
/-! DEFINITION. The transport operations (42_transport.md R95-R103): each is a fixed list of line micro-ops that is placed
in `uq`. -/

namespace Sys2Proof.Machine

/-- The expansion of START: 2 micro-ops, 1 WAIT (R96; 90_conflicts.md C3). -/
def startOps : List MicroOp := [.drvlo .dio, .wait]

/-- The expansion of STOP: 6 micro-ops, 3 WAITs (R97). -/
def stopOps : List MicroOp := [.drvlo .dio, .wait, .rel .clk, .wait, .rel .dio, .wait]

/-- The micro-op that puts a bit on DIO: release for 1, drive low for 0 (R99). -/
def dataOp (x : Bool) : MicroOp := if x then .rel .dio else .drvlo .dio

/-- One bit group (R99). -/
def bitOps (x : Bool) : List MicroOp := [.drvlo .clk, .wait, dataOp x, .wait, .rel .clk, .wait]

/-- The ACK tail (R100; 90_conflicts.md C2): two line changes before its first WAIT. -/
def ackTail : List MicroOp :=
  [.drvlo .clk, .rel .dio, .wait, .rel .clk, .wait, .sample, .drvloIfAck, .wait, .drvlo .clk, .wait]

/-- The expansion of WRB b: the eight bit groups, b[0] first, then the ACK tail (R98). -/
def wrbOps (b : Byte) : List MicroOp :=
  bitOps (bitOf b 0) ++ bitOps (bitOf b 1) ++ bitOps (bitOf b 2) ++ bitOps (bitOf b 3) ++
    bitOps (bitOf b 4) ++ bitOps (bitOf b 5) ++ bitOps (bitOf b 6) ++ bitOps (bitOf b 7) ++ ackTail

/-- The line micro-ops a transport operation stands for. -/
def TransportOp.expand : TransportOp → List MicroOp
  | .start => startOps
  | .stop => stopOps
  | .wrb b => wrbOps b

/-- `expand(p)`: the concatenation of the expansions (43_commands.md R109). -/
def expandProgram (p : List TransportOp) : List MicroOp := p.flatMap TransportOp.expand

/-- A transaction: START, the byte writes, STOP (R95). -/
def transaction (bytes : List Byte) : List TransportOp := .start :: bytes.map .wrb ++ [.stop]

/-- START (R96). -/
def execStart (s : State) : Host.Outcome State Fault Refusal := .next (s.enqueue startOps)

/-- STOP (R97). -/
def execStop (s : State) : Host.Outcome State Fault Refusal := .next (s.enqueue stopOps)

/-- WRB b (R98). -/
def execWrb (b : Byte) (s : State) : Host.Outcome State Fault Refusal := .next (s.enqueue (wrbOps b))

end Sys2Proof.Machine
end

