-- ==== Sys2Proof/Machine/Commands.lean ====
section
/-! DEFINITION. The host commands (43_commands.md R104-R119): SETBRT, LDSLOT, SETSEG, CLRST. The accept step around them, with
the BUSY check and the illegal words, is Machine/Accept.lean. -/

namespace Sys2Proof.Machine

/-- SETBRT level (R107): BRIGHTNESS <- maskBrightness(level), BRT_SET <- 1, nothing on the bus. -/
def execSetbrt (level : Byte) (s : State) : Host.Outcome State Fault Refusal :=
  .next (s.setBrightness (maskBrightness level)).markBrtSet

/-- LDSLOT slot, mask (R108): FRAME[slot] <- mask. -/
def execLdslot (slot : BitVec 2) (mask : Byte) (s : State) : Host.Outcome State Fault Refusal :=
  .next (s.setSlot slot mask)

/-- The sequencer's program for one display update: the three transactions in the source's order (R109). -/
def updateProgram (frame : Vector Byte 4) (brightness : BitVec 4) (len : BitVec 3) (pos : Byte) : List TransportOp :=
  transaction [preambleByte] ++
    transaction (addressByte pos :: dataBytes frame len) ++
    transaction [controlByte brightness]

/-- SETSEG len, pos (R109): `uq` <- the expansion, from FRAME and BRIGHTNESS as they are at this step. With LEN in 5..7 there is
no such command: the word is illegal and is dropped (30_encoding.md R72 (c); notes/assumptions/10.md). -/
def execSetseg (len : BitVec 3) (pos : Byte) (s : State) : Host.Outcome State Fault Refusal :=
  if len.toNat ≤ maxLen then .next (s.setUq (expandProgram (updateProgram s.frame s.brightness len pos)))
  else .next (s.raiseCmdError .illegal (0x06#5 ++ len ++ pos))

/-- CLRST (R110). -/
def execClrst (s : State) : Host.Outcome State Fault Refusal := .next s.clearSticky

end Sys2Proof.Machine
end

