-- ==== Sys2Proof/Machine/LineOps.lean ====
section
/-! DEFINITION. The line micro-operations (41_line_ops.md R83-R94): DRVLO, REL, WAIT, SAMPLE, DRVLO_IF_ACK. -/

namespace Sys2Proof.Machine

/-- DRVLO L (R89): the event is emitted also when the line is driven already (R86, R88). -/
def execDrvlo (l : Line) (s : State) : Host.Outcome State Fault Refusal := .next (s.driveLow l)

/-- REL L (R90). -/
def execRel (l : Line) (s : State) : Host.Outcome State Fault Refusal := .next (s.release l)

/-- WAIT (R91): no register changes. -/
def execWait (s : State) : Host.Outcome State Fault Refusal := .next s.hold

/-- SAMPLE (R92): total in DIR_DIO, though no sequence of the block samples a line it drives. -/
def execSample (s : State) : Host.Outcome State Fault Refusal := .next s.sampleDio

/-- DRVLO_IF_ACK (R93): drive DIO low if ACK_LAST = 0; else nothing, and no event. -/
def execDrvloIfAck (s : State) : Host.Outcome State Fault Refusal :=
  .next (if s.ackLast = false then s.driveLow .dio else s)

end Sys2Proof.Machine
end

