-- ==== Sys2Proof/Machine/Dispatch.lean ====
section
/-! DEFINITION. The one dispatch of instructions to their meanings. -/

namespace Sys2Proof.Machine

def exec (i : Instr) (s : State) : Host.Outcome State Fault Refusal :=
  match i with
  -- host commands (43_commands.md)
  | .setbrt level => Sys2Proof.Machine.execSetbrt level s
  | .ldslot slot mask => Sys2Proof.Machine.execLdslot slot mask s
  | .setseg len pos => Sys2Proof.Machine.execSetseg len pos s
  | .clrst => Sys2Proof.Machine.execClrst s
  -- line micro-operations (41_line_ops.md)
  | .drvlo l => Sys2Proof.Machine.execDrvlo l s
  | .rel l => Sys2Proof.Machine.execRel l s
  | .wait => Sys2Proof.Machine.execWait s
  | .sample => Sys2Proof.Machine.execSample s
  | .drvloIfAck => Sys2Proof.Machine.execDrvloIfAck s
  -- transport operations (42_transport.md)
  | .start => Sys2Proof.Machine.execStart s
  | .stop => Sys2Proof.Machine.execStop s
  | .wrb b => Sys2Proof.Machine.execWrb b s

end Sys2Proof.Machine
end

