-- ==== Sys2Proof/Machine/Accept.lean ====
section
/-! DEFINITION. The three kinds of step (10_state.md R43): the accept step (43_commands.md R104), the sequencer step
(41_line_ops.md R85) and the reset step, and where the step fetches its next instruction. -/

namespace Sys2Proof.Machine

/-- The accept step (43_commands.md R104): BUSY is tested before decoding (R105); a legal word is executed, an illegal one raises
ERR_ILLEGAL (R111). Only host commands decode, so the host cannot issue a micro-op (R112). -/
def accept (w : CmdWord) (s : State) : Host.Outcome State Fault Refusal :=
  if s.busy then .next (s.raiseCmdError .busy w)
  else match decodeCmd w with
    | .ok i => exec i s
    | .error _ => .next (s.raiseCmdError .illegal w)

/-- The sequencer's turn (41_line_ops.md R85): remove the head of `uq` and perform it. A transport operation placed in `prog` is
expanded first (notes/assumptions/5.md). With nothing to do the block stays as it is (R85; notes/assumptions/4.md). -/
def sequence (s : State) : Host.Outcome State Fault Refusal :=
  match s.prog with
  | t :: rest => exec t.toInstr (s.setProg rest)
  | [] =>
    match s.uq with
    | u :: rest => exec u.toInstr (s.setUq rest)
    | [] => .next s

/-- What one input of the outside makes the block do. -/
def takeInput (i : Input) (s : State) : Host.Outcome State Fault Refusal :=
  match i with
  | .present w => accept w s
  | .reset => .next s.resetStep
  | .idle => sequence s

/-- One step: the outside's next input if there is one, else the sequencer's turn (notes/assumptions/3.md). -/
def stepOnce (s : State) : Host.Outcome State Fault Refusal :=
  match s.inputs with
  | i :: rest => takeInput i (s.setInputs rest)
  | [] => sequence s

/-- The line micro-op that an instruction is, if it is one (30_encoding.md R78). -/
def microOpOf : Instr → Option MicroOp
  | .drvlo l => some (.drvlo l)
  | .rel l => some (.rel l)
  | .wait => some .wait
  | .sample => some .sample
  | .drvloIfAck => some .drvloIfAck
  | .setbrt _ | .ldslot _ _ | .setseg _ _ | .clrst | .start | .stop | .wrb _ => none

/-- The transport operation that an instruction is, if it is one (30_encoding.md R78). -/
def transportOpOf : Instr → Option TransportOp
  | .start => some .start
  | .stop => some .stop
  | .wrb b => some (.wrb b)
  | .setbrt _ | .ldslot _ _ | .setseg _ _ | .clrst | .drvlo _ | .rel _ | .wait | .sample | .drvloIfAck => none

/-- Place a code word where the next step fetches it (notes/assumptions/5.md): a host word on the idle command port, a line
micro-op at the head of `uq`, a transport operation at the head of `prog`; a micro-word that is no instruction is presented on
the port as the 16-bit word it is numbered as. -/
def State.placeCodeWord (c : CodeWord) (s : State) : State :=
  match c with
  | .cmd16 w => ((s.setProg []).setUq []).setInputs (.present w :: s.inputs)
  | .uop12 w =>
    match decodeUop w with
    | .error _ => ((s.setProg []).setUq []).setInputs (.present (w.zeroExtend 16) :: s.inputs)
    | .ok i =>
      match microOpOf i, transportOpOf i with
      | some u, _ => ((s.setProg []).setUq (u :: s.uq)).setInputs (.idle :: s.inputs)
      | none, some t => (s.setProg (t :: s.prog)).setInputs (.idle :: s.inputs)
      | none, none => s

end Sys2Proof.Machine
end

