-- ==== Sys2Proof/Machine/Step.lean ====
section
/-! DEFINITION. The step of the machine, and the placing of one instruction where it fetches. -/

namespace Sys2Proof.Machine

/-- One step (10_state.md R43). It never faults and never refuses. -/
def step (s : State) : Host.Outcome State Fault Refusal := stepOnce s

/-- `s` with one instruction placed where `step` fetches its next one (notes/assumptions/5.md). -/
def State.withFetchWord (s : State) (nbits w : Nat) : State := s.placeCodeWord (tableCodeWord nbits w)

end Sys2Proof.Machine
end

