-- ==== Sys2Proof/Machine/FrameBuilder.lean ====
section
/-! DEFINITION. The host-side frame builder (44_frame_builder.md R120-R131). It is no part of the block: it reads no block
state and changes none. -/

namespace Sys2Proof.Machine

/-- The decimal-point class: `.` `,` `:` `;` in ASCII (R121). -/
def isPunct (ch : Byte) : Bool := ch == 0x2E#8 || ch == 0x2C#8 || ch == 0x3A#8 || ch == 0x3B#8

/-- The frame under construction and the cursor: `none` is "before slot 0" (R125). -/
structure FrameCursor where
  masks : Vector Byte 4
  cursor : Option (Fin 4)
deriving DecidableEq, Repr

/-- The cursor before the first character, every slot blank (R125). -/
def FrameCursor.blank : FrameCursor := { masks := Vector.replicate 4 0x00#8, cursor := none }

/-- `truncateToSlots`: where the cursor goes for a digit-class character, or nowhere when all four slots are taken (R126). -/
def truncateToSlots : Option (Fin 4) → Option (Fin 4)
  | none => some 0
  | some c => if h : c.val + 1 < 4 then some ⟨c.val + 1, h⟩ else none

/-- One character of the text (R125): punctuation folds its bit 7 into the current slot (R127), another character takes the next
slot or is dropped. `seg` is the parameter SEG_TABLE (R122; notes/assumptions/15.md). -/
def FrameCursor.put (seg : Byte → Byte) (f : FrameCursor) (ch : Byte) : FrameCursor :=
  if isPunct ch then
    match f.cursor with
    | some c => { f with masks := f.masks.set c.val (f.masks[c] ||| (seg ch &&& 0x80#8)) }
    | none => f
  else
    match truncateToSlots f.cursor with
    | some c => { masks := f.masks.set c.val (seg ch), cursor := some c }
    | none => f

/-- `buildFrame(text)` (R125). -/
def buildFrame (seg : Byte → Byte) (text : List Byte) : Vector Byte 4 :=
  (text.foldl (FrameCursor.put seg) .blank).masks

/-- The characters R123 (a) names: '0'..'9', 'A', 'b', 'C', 'd', 'E', 'F' and '-', in ASCII. -/
def isSegChar (ch : Byte) : Bool :=
  (0x30#8 ≤ ch && ch ≤ 0x39#8) || ch == 0x41#8 || ch == 0x62#8 || ch == 0x43#8 || ch == 0x64#8 ||
    ch == 0x45#8 || ch == 0x46#8 || ch == 0x2D#8

/-- All that the source constrains of SEG_TABLE (R123 (b), (c)). -/
def SegTableAdmissible (seg : Byte → Byte) : Prop :=
  (∀ ch, isSegChar ch = false → isPunct ch = false → seg ch = 0x00#8) ∧ seg 0x2E#8 &&& 0x80#8 = 0x80#8

/-- The default table, for test configurations only (R131, general knowledge and not in the source; punctuation by R124). PRESUMED,
notes/assumptions/15.md. -/
def segTableDefault (ch : Byte) : Byte :=
  match ch.toNat with
  | 0x30 => 0x3F#8
  | 0x31 => 0x06#8
  | 0x32 => 0x5B#8
  | 0x33 => 0x4F#8
  | 0x34 => 0x66#8
  | 0x35 => 0x6D#8
  | 0x36 => 0x7D#8
  | 0x37 => 0x07#8
  | 0x38 => 0x7F#8
  | 0x39 => 0x6F#8
  | 0x41 => 0x77#8
  | 0x62 => 0x7C#8
  | 0x43 => 0x39#8
  | 0x64 => 0x5E#8
  | 0x45 => 0x79#8
  | 0x46 => 0x71#8
  | 0x2D => 0x40#8
  | 0x2E => 0x80#8
  | 0x2C => 0x80#8
  | 0x3A => 0x80#8
  | 0x3B => 0x80#8
  | _ => 0x00#8

end Sys2Proof.Machine
end

