-- ==== Sys2Proof/Machine/HostSide.lean ====
section
/-! DEFINITION. The host's side: assembler syntax and pseudo-instructions (30_encoding.md R79-R81, 44_frame_builder.md R129,
R130), and what a host that follows them makes the block do. No part of the block. -/

namespace Sys2Proof.Machine

/-- What a host program does: present a word, or poll STATUS until BUSY reads 0 (R81). -/
inductive HostOp where
  | word (w : CmdWord)
  | waitIdle
deriving DecidableEq, Repr

/-- One line of host assembly, its immediates as written (R79, R81). -/
inductive HostLine where
  | setbrt (level : Nat)
  | ldslot (slot mask : Nat)
  | setseg (len pos : Nat)
  | clrst
  | rawWord (w : Nat)
  | waitIdle
  | showFour (m0 m1 m2 m3 pos : Nat)
  | showSome (len pos : Nat) (masks : List Nat)
  | showText (text : List Byte)
deriving DecidableEq, Repr

/-- An immediate of `w` bits; one outside the range is refused, never wrapped (R79). -/
def immediate (w n : Nat) : Option (BitVec w) := if n < 2 ^ w then some (BitVec.ofNat w n) else none

/-- The word of a host command; nothing for a micro-op, which the host cannot issue (R80, 43_commands.md R112). -/
def hostWord (i : Instr) : Option CmdWord :=
  match encode i with
  | .cmd16 w => if i.wellFormed then some w else none
  | .uop12 _ => none

/-- `LDSLOT i, m` for the masks in slot order from slot i; refused past slot 3 (R79, R81). -/
def loadSlots : Nat → List Byte → Option (List HostOp)
  | _, [] => some []
  | i, m :: rest => do
    let slot ← immediate 2 i
    let w ← hostWord (.ldslot slot m)
    let ops ← loadSlots (i + 1) rest
    return .word w :: ops

/-- `SHOWN len, pos, m0, …, m(len-1)`, the source's setSegments (R81). -/
def showSome (pos : Byte) (masks : List Byte) : Option (List HostOp) := do
  let len ← immediate 3 masks.length
  let loads ← loadSlots 0 masks
  let w ← hostWord (.setseg len pos)
  return .waitIdle :: loads ++ [.word w, .waitIdle]

/-- `SHOW m0, m1, m2, m3, pos`: the length = 4 case (R81). -/
def showFour (masks : Vector Byte 4) (pos : Byte) : Option (List HostOp) := showSome pos masks.toList

/-- `SHOWTEXT "text"` (44_frame_builder.md R129), for a parameter SEG_TABLE. -/
def showText (seg : Byte → Byte) (text : List Byte) : Option (List HostOp) := showFour (buildFrame seg text) 0x00#8

/-- `SHOWNUM value, places` (44_frame_builder.md R130), for the parameter FORMAT_FN (notes/assumptions/16.md). -/
def showNum {α : Type} (format : α → Nat → List Byte) (seg : Byte → Byte) (value : α) (places : Nat) : Option (List HostOp) :=
  showText seg (format value places)

/-- The assembler (R79, R81): the host operations of a line, or nothing where it refuses the line. -/
def assembleLine (seg : Byte → Byte) : HostLine → Option (List HostOp)
  | .setbrt level => do
    let w ← hostWord (.setbrt (← immediate 8 level))
    return [.word w]
  | .ldslot slot mask => do
    let w ← hostWord (.ldslot (← immediate 2 slot) (← immediate 8 mask))
    return [.word w]
  | .setseg len pos => do
    let w ← hostWord (.setseg (← immediate 3 len) (← immediate 8 pos))
    return [.word w]
  | .clrst => (hostWord .clrst).map fun w => [.word w]
  | .rawWord w => (immediate 16 w).map fun w => [.word w]
  | .waitIdle => some [.waitIdle]
  | .showFour m0 m1 m2 m3 pos => do
    showSome (← immediate 8 pos) [← immediate 8 m0, ← immediate 8 m1, ← immediate 8 m2, ← immediate 8 m3]
  | .showSome len pos masks =>
    if len = masks.length then do showSome (← immediate 8 pos) (← masks.mapM (immediate 8)) else none
  | .showText text => showText seg text

/-- A host program of several lines. -/
def assembleProgram (seg : Byte → Byte) (lines : List HostLine) : Option (List HostOp) :=
  (lines.mapM (assembleLine seg)).map List.flatten

/-- `k` steps of the machine. -/
def runSteps : Nat → State → Host.Outcome State Fault Refusal
  | 0, s => .next s
  | k + 1, s =>
    match step s with
    | .next t => runSteps k t
    | .fault r => .fault r
    | .refused r => .refused r

/-- What one operation of a host makes the block do when nothing else happens: a word is one accept step; WAITIDLE lasts until the
sequencer has performed all of `uq` (notes/assumptions/18.md). -/
def driveOp (op : HostOp) (s : State) : Host.Outcome State Fault Refusal :=
  match op with
  | .word w => step (s.setInputs (.present w :: s.inputs))
  | .waitIdle => runSteps s.uq.length s

/-- A host program driven to its end (70_reset_and_hazards.md R169). -/
def drive : List HostOp → State → Host.Outcome State Fault Refusal
  | [], s => .next s
  | op :: rest, s =>
    match driveOp op s with
    | .next t => drive rest t
    | .fault r => .fault r
    | .refused r => .refused r

/-- How a line is written in listings (R80). -/
def lineName : Line → String
  | .clk => "CLK"
  | .dio => "DIO"

/-- The listing of a line micro-op (R80). -/
def MicroOp.listing : MicroOp → String
  | .drvlo l => "DRVLO " ++ lineName l
  | .rel l => "REL " ++ lineName l
  | .wait => "WAIT"
  | .sample => "SAMPLE"
  | .drvloIfAck => "DRVLO_IF_ACK"

/-- A byte in hexadecimal: 0x and two digits, capitals. -/
def hexByte (b : Byte) : String :=
  let digits := ['0', '1', '2', '3', '4', '5', '6', '7', '8', '9', 'A', 'B', 'C', 'D', 'E', 'F']
  "0x" ++ String.ofList [digits.getD (b.toNat / 16) '0', digits.getD (b.toNat % 16) '0']

/-- The listing of a transport operation (R80). R80 leaves the form of WRB's byte open; DESIGN CHOICE, notes/assumptions/22.md: it is
written as 42_transport.md and 95_test_vectors.md write it, `WRB 0x40`. -/
def TransportOp.listing : TransportOp → String
  | .start => "START"
  | .stop => "STOP"
  | .wrb b => "WRB " ++ hexByte b

end Sys2Proof.Machine
end

