-- ==== Sys2Proof/Machine/Assembler.lean ====
section
/-! DEFINITION. The text of a host program (30_encoding.md R79, R81): one command per line, immediates in decimal or 0x
hexadecimal, operands separated by commas. The host refuses every other line, the listings of micro-ops among them (R80). What the
rules leave open (spaces, comments, letter case) is notes/assumptions/17.md. -/

namespace Sys2Proof.Machine

/-- The value of a digit character, up to base 16. -/
def digitValue (c : Char) : Option Nat :=
  let n := c.toNat
  if 0x30 ≤ n ∧ n ≤ 0x39 then some (n - 0x30)
  else if 0x61 ≤ n ∧ n ≤ 0x66 then some (n - 0x61 + 10)
  else if 0x41 ≤ n ∧ n ≤ 0x46 then some (n - 0x41 + 10)
  else none

/-- Digits of a base read on from a value. -/
def readDigits (base : Nat) (acc : Nat) : List Char → Option Nat
  | [] => some acc
  | c :: rest =>
    match digitValue c with
    | some d => if d < base then readDigits base (acc * base + d) rest else none
    | none => none

/-- An immediate: decimal, or hexadecimal after 0x; at least one digit (R79). -/
def readImmediate : List Char → Option Nat
  | [] => none
  | ['0', 'x'] => none
  | '0' :: 'x' :: rest => readDigits 16 0 rest
  | cs => readDigits 10 0 cs

/-- A space or a tab. -/
def isBlank (c : Char) : Bool := c.toNat == 0x20 || c.toNat == 0x09

/-- Text without blanks at its two ends. -/
def trim (cs : List Char) : List Char := ((cs.dropWhile isBlank).reverse.dropWhile isBlank).reverse

/-- Text cut at each comma. -/
def cutAtCommas : List Char → List (List Char)
  | [] => [[]]
  | c :: rest =>
    if c = ',' then [] :: cutAtCommas rest
    else match cutAtCommas rest with
      | [] => [[c]]
      | w :: ws => (c :: w) :: ws

/-- The double quote. -/
def quoteChar : Char := Char.ofNat 0x22

/-- Text up to a comment, which a semicolon outside double quotes begins. -/
def dropComment (inQuotes : Bool) : List Char → List Char
  | [] => []
  | c :: rest =>
    if c = quoteChar then c :: dropComment (!inQuotes) rest
    else if c = ';' ∧ inQuotes = false then []
    else c :: dropComment inQuotes rest

/-- The operands after a mnemonic. -/
def readOperands (cs : List Char) : Option (List Nat) :=
  match trim cs with
  | [] => some []
  | body => (cutAtCommas body).mapM fun w => readImmediate (trim w)

/-- A text in double quotes as 8-bit character codes (44_frame_builder.md R120, R121). DESIGN CHOICE, notes/assumptions/21.md: a
character outside ASCII, for which the spec gives no code, has its Unicode code point if that is below 256, and else the line is
refused. -/
def readQuoted (cs : List Char) : Option (List Byte) :=
  match trim cs with
  | q :: rest =>
    match rest.reverse with
    | q' :: body =>
      if q = quoteChar ∧ q' = quoteChar then
        body.reverse.mapM fun c => if c = quoteChar then none else immediate 8 c.toNat
      else none
    | [] => none
  | [] => none

/-- A line with its mnemonic and operands read (R79, R81). -/
def lineOf (mnemonic : List Char) (rest : List Char) : Option HostLine :=
  if mnemonic = ['S', 'H', 'O', 'W', 'T', 'E', 'X', 'T'] then (readQuoted rest).map .showText
  else do
    let operands ← readOperands rest
    if mnemonic = ['S', 'E', 'T', 'B', 'R', 'T'] then
      match operands with
      | [level] => some (.setbrt level)
      | _ => none
    else if mnemonic = ['L', 'D', 'S', 'L', 'O', 'T'] then
      match operands with
      | [slot, mask] => some (.ldslot slot mask)
      | _ => none
    else if mnemonic = ['S', 'E', 'T', 'S', 'E', 'G'] then
      match operands with
      | [len, pos] => some (.setseg len pos)
      | _ => none
    else if mnemonic = ['C', 'L', 'R', 'S', 'T'] then
      match operands with
      | [] => some .clrst
      | _ => none
    else if mnemonic = ['.', 'w', 'o', 'r', 'd'] then
      match operands with
      | [w] => some (.rawWord w)
      | _ => none
    else if mnemonic = ['W', 'A', 'I', 'T', 'I', 'D', 'L', 'E'] then
      match operands with
      | [] => some .waitIdle
      | _ => none
    else if mnemonic = ['S', 'H', 'O', 'W'] then
      match operands with
      | [m0, m1, m2, m3, pos] => some (.showFour m0 m1 m2 m3 pos)
      | _ => none
    else if mnemonic = ['S', 'H', 'O', 'W', 'N'] then
      match operands with
      | len :: pos :: masks => some (.showSome len pos masks)
      | _ => none
    else none

/-- The host line a text stands for. -/
def parseLine (cs : List Char) : Option HostLine :=
  let body := trim (dropComment false cs)
  lineOf (body.takeWhile (!isBlank ·)) (body.dropWhile (!isBlank ·))

/-- The host operations of one line of text, none for an empty line, or a refusal. -/
def assembleText (seg : Byte → Byte) (cs : List Char) : Option (List HostOp) :=
  match trim (dropComment false cs) with
  | [] => some []
  | _ => (parseLine cs).bind (assembleLine seg)

end Sys2Proof.Machine
end

