-- ==== Sys2Proof/Machine/Bus.lean ====
section
/-! DEFINITION. What stands on the wire: the pads and line levels (10_state.md R19, R25-R27), the line-level trace (R41), the
counts and least times of holds (70_reset_and_hazards.md R168), the two-wire recorder and the compliant device in whose terms
claims about recovered bytes are made (42_transport.md R103; 95_test_vectors.md, Conventions). No step reads anything here. -/

namespace Sys2Proof.Machine

/-- The output half of one pad (R19): output enable and output value. -/
structure Pad where
  oe : Bool
  o : BitVec 1
deriving DecidableEq, Repr

/-- The pad mapping (R26): output enable exactly when the direction is OUT; the value is the hardwired latch. -/
def State.pad (l : Line) (s : State) : Pad := { oe := decide (s.dir l = .OUT), o := s.outLatch l }

/-- `level(L) = 0 if DIR_L = OUT or ext_L, else 1` (R27); `true` is 1 (notes/assumptions/13.md). -/
def level (d : Dir) (ext : Bool) : Bool := !(decide (d = .OUT) || ext)

/-- The directions of the two lines. -/
structure Dirs where
  clk : Dir
  dio : Dir
deriving DecidableEq, Repr

/-- Both lines released: the bus idle (42_transport.md R95). -/
def Dirs.released : Dirs := { clk := .IN, dio := .IN }

/-- The directions of a state. -/
def State.dirs (s : State) : Dirs := { clk := s.dirClk, dio := s.dirDio }

/-- How an event leaves the directions (00_scope.md R12). -/
def Dirs.after (d : Dirs) : Event → Dirs
  | .drive .clk => { d with clk := .OUT }
  | .drive .dio => { d with dio := .OUT }
  | .release .clk => { d with clk := .IN }
  | .release .dio => { d with dio := .IN }
  | .wait => d
  | .sample _ => d
  | .reset => .released

/-- The levels of the two lines; `true` is 1. -/
structure Levels where
  clk : Bool
  dio : Bool
deriving DecidableEq, Repr

/-- What the outside pulls low; `true` is a pull. -/
structure Ext where
  clk : Bool
  dio : Bool
deriving DecidableEq, Repr

/-- The levels under given directions and pulls (R27). -/
def Dirs.levels (d : Dirs) (e : Ext) : Levels := { clk := level d.clk e.clk, dio := level d.dio e.dio }

/-- The line-level trace (R41): the pair of levels after each event, from the directions before the first event and the pulls
after each event. -/
def levelTrace (d : Dirs) : List (Event × Ext) → List Levels
  | [] => []
  | (e, x) :: rest => (d.after e).levels x :: levelTrace (d.after e) rest

/-- How many holds a piece of the trace has. -/
def waits (es : List Event) : Nat := es.count .wait

/-- The least time the holds of a piece of the trace take, for a timing unit (60_exceptions.md R145, 70 R168). -/
def minHold (unit : Nat) (es : List Event) : Nat := waits es * unit

/-- The least time of a piece of the trace under the implementation's own T_UNIT, in microseconds (R91, R145). -/
def leastTime (es : List Event) : Nat := minHold Config.tUnit es

/-- The values the SAMPLEs of a piece of the trace read, in order. -/
def samples : List Event → List Bool
  | [] => []
  | .sample b :: rest => b :: samples rest
  | .drive _ :: rest => samples rest
  | .release _ :: rest => samples rest
  | .wait :: rest => samples rest
  | .reset :: rest => samples rest

/-- A recorder of the two wires (42_transport.md R103): it knows the levels it saw last, the bits collected since the last
byte boundary of an open transaction, that transaction's bytes, and the transactions closed (notes/assumptions/14.md). -/
structure Recorder where
  seen : Levels
  bits : Option (List Bool)
  bytes : List Byte
  closed : List (List Byte)
deriving DecidableEq, Repr

/-- Bits assembled least-significant first (20_memory.md R49). -/
def assembleByte : List Bool → Byte
  | [] => 0#8
  | x :: rest => (assembleByte rest) <<< 1 ||| (if x then 0x01#8 else 0x00#8)

/-- The recorder sees one new pair of levels. DIO falling while CLK is high opens a transaction, DIO rising while CLK is high
closes it (R103 (a), (b)); at a rising edge of CLK it takes DIO, and the ninth edge ends a byte (R103 (c)). DESIGN CHOICE,
notes/assumptions/14.md: a start inside an open transaction discards that transaction's bytes unreported, and where CLK and DIO rise
in one step, as a reset can make them, that is an edge of CLK with DIO at its new level 1 and no stop. -/
def Recorder.see (r : Recorder) (l : Levels) : Recorder :=
  let r' := { r with seen := l }
  if r.seen.clk && l.clk then
    if r.seen.dio && !l.dio then { r' with bits := some [], bytes := [] }
    else if !r.seen.dio && l.dio then
      match r.bits with
      | some _ => { r' with bits := none, bytes := [], closed := r.closed ++ [r.bytes] }
      | none => r'
    else r'
  else if !r.seen.clk && l.clk then
    match r.bits with
    | some bs =>
      if bs.length < 8 then { r' with bits := some (bs ++ [l.dio]) }
      else { r' with bits := some [], bytes := r.bytes ++ [assembleByte bs] }
    | none => r'
  else r'

/-- A recorder on an idle bus. -/
def Recorder.idle : Recorder :=
  { seen := { clk := true, dio := true }, bits := none, bytes := [], closed := [] }

/-- The transactions a recorder recovers from a line-level trace that starts on an idle bus. -/
def recover (ls : List Levels) : List (List Byte) := (ls.foldl Recorder.see Recorder.idle).closed

/-- A device that complies (95_test_vectors.md, Conventions): it pulls DIO low for its acknowledge from the ACK tail's
`REL DIO` until the tail's last `DRVLO CLK`, at no other time, and never pulls CLK low. It counts the rising edges of CLK since
the start or the last byte; `acks` says which bytes whose SAMPLE is still to come it will acknowledge (notes/assumptions/13.md). -/
structure Device where
  clkLow : Bool
  edges : Nat
  pulling : Bool
  acks : List Bool
deriving DecidableEq, Repr

/-- The device follows one event. A byte's entry of `acks` is used up by its SAMPLE. DESIGN CHOICE, notes/assumptions/20.md: at a
`Reset`, of which the spec does not say what a complying device makes, it stops pulling DIO and counts edges from zero. -/
def Device.follow (d : Device) : Event → Device
  | .drive .clk =>
    if d.edges = 9 then { clkLow := true, edges := 0, pulling := false, acks := d.acks }
    else { d with clkLow := true }
  | .release .clk => { d with clkLow := false, edges := d.edges + 1 }
  | .release .dio =>
    if d.clkLow then (if d.edges = 8 then { d with pulling := d.acks.headD false } else d)
    else { d with edges := 0 }
  | .drive .dio => d
  | .wait => d
  | .sample _ => { d with acks := d.acks.tail }
  | .reset => { d with clkLow := false, edges := 0, pulling := false }

/-- Each event with what the compliant device pulls after it. -/
def Device.pulls (d : Device) : List Event → List (Event × Ext)
  | [] => []
  | e :: rest => (e, { clk := false, dio := (d.follow e).pulling }) :: (d.follow e).pulls rest

/-- A device on an idle bus that will acknowledge the bytes whose entry of `acks` is `true`. -/
def Device.idle (acks : List Bool) : Device := { clkLow := false, edges := 0, pulling := false, acks := acks }

/-- The line-level trace of a piece of the bus trace that starts on an idle bus, with a compliant device that gives exactly
the acknowledges the piece's SAMPLEs read (0 is an acknowledge, 42_transport.md R98). -/
def compliantLevels (es : List Event) : List Levels :=
  levelTrace .released ((Device.idle ((samples es).map (!·))).pulls es)

/-- The events of one bit group (42_transport.md R99, 41_line_ops.md R86). -/
def bitEvents (x : Bool) : List Event :=
  [.drive .clk, .wait, if x then .release .dio else .drive .dio, .wait, .release .clk, .wait]

/-- The events of the ACK tail when its SAMPLE reads `b` (R100): `Drive(DIO)` only if the byte was acknowledged. -/
def ackEvents (b : Bool) : List Event :=
  [.drive .clk, .release .dio, .wait, .release .clk, .wait, .sample b] ++
    (if b then [] else [.drive .dio]) ++ [.wait, .drive .clk, .wait]

/-- The events of WRB v when its SAMPLE reads `b` (R98; 95_test_vectors.md V-T4, V-T5). -/
def byteEvents (v : Byte) (b : Bool) : List Event :=
  ((List.range 8).flatMap fun i => bitEvents (v.getLsbD i)) ++ ackEvents b

/-- The events of WRBs in order; `draw k` is what the k-th of their SAMPLEs reads. -/
def bytesEvents (draw : Nat → Bool) : List Byte → List Event
  | [] => []
  | v :: rest => byteEvents v (draw 0) ++ bytesEvents (fun k => draw (k + 1)) rest

/-- The events of a transaction (R95, R96, R97). -/
def transactionEvents (draw : Nat → Bool) (bytes : List Byte) : List Event :=
  [.drive .dio, .wait] ++ bytesEvents draw bytes ++
    [.drive .dio, .wait, .release .clk, .wait, .release .dio, .wait]

/-- The three transactions' bytes of one display update (43_commands.md R109, R118). -/
def updateBytes (frame : Vector Byte 4) (brightness : BitVec 4) (len : BitVec 3) (pos : Byte) : List (List Byte) :=
  [[0x40#8], (0xC0#8 ||| (pos &&& 0x03#8)) :: frame.toList.take len.toNat, [0x80#8 ||| brightness.zeroExtend 8]]

/-- The events of one display update; `draw k` is what its k-th SAMPLE reads (43_commands.md R109). -/
def updateEvents (draw : Nat → Bool) (frame : Vector Byte 4) (brightness : BitVec 4) (len : BitVec 3) (pos : Byte) : List Event :=
  let n := len.toNat
  transactionEvents draw [0x40#8] ++
    transactionEvents (fun k => draw (k + 1)) ((0xC0#8 ||| (pos &&& 0x03#8)) :: frame.toList.take n) ++
    transactionEvents (fun k => draw (k + 2 + n)) [0x80#8 ||| brightness.zeroExtend 8]

end Sys2Proof.Machine
end

