-- ==== Sys2Proof/Safety.lean ====
section
/-! DEFINITION. What counts as a good state and a good run, in the terms the statements use: the bus idle, the queue's discipline,
the run's end and observation, and the groups of state that a frame names. -/

namespace Sys2Proof

open Machine

/-- Both lines released (43_commands.md R115, the bus idle). -/
def BusReleased (s : State) : Prop := s.dirClk = .IN ∧ s.dirDio = .IN

/-- The block is idle on an idle bus, with nothing placed in `prog` and no input of the outside to come. -/
def Quiet (s : State) : Prop := s.uq = [] ∧ s.prog = [] ∧ s.inputs = [] ∧ BusReleased s

/-- The discipline of the queue, followed with the direction of CLK and what is known of the direction of DIO (`none` after a
DRVLO_IF_ACK, which drives or not): a SAMPLE and a DRVLO_IF_ACK come with CLK released, a SAMPLE with DIO released
(41_line_ops.md R92, R93), and at the end both lines are released (43_commands.md R115). -/
def QueueOk : Dir → Option Dir → List MicroOp → Prop
  | clk, dio, [] => clk = .IN ∧ dio = some .IN
  | _, dio, .drvlo .clk :: q => QueueOk .OUT dio q
  | clk, _, .drvlo .dio :: q => QueueOk clk (some .OUT) q
  | _, dio, .rel .clk :: q => QueueOk .IN dio q
  | clk, _, .rel .dio :: q => QueueOk clk (some .IN) q
  | clk, dio, .wait :: q => QueueOk clk dio q
  | clk, dio, .sample :: q => clk = .IN ∧ dio = some .IN ∧ QueueOk clk dio q
  | clk, dio, .drvloIfAck :: q => clk = .IN ∧ QueueOk clk (if dio = some .OUT then some .OUT else none) q

/-- The machine's invariant: nothing is left in the model's own `prog`, and what is queued keeps the discipline from the
directions as they are. -/
def Inv (s : State) : Prop := s.prog = [] ∧ QueueOk s.dirClk (some s.dirDio) s.uq

/-- `uq` is what remains of one display update (10_state.md R37, 43_commands.md R112). -/
def QueueFromUpdate (s : State) : Prop :=
  s.prog = [] ∧ ∃ frame brightness len pos, len.toNat ≤ maxLen ∧
    s.uq <:+ expandProgram (updateProgram frame brightness len pos)

/-- A run is clean when no word was dropped in it (60_exceptions.md R139; 92_eei_decisions.md D8). -/
def CleanRun (s : State) : Prop := s.faultRecord = []

/-- The run has ended: the host has presented its last word and the block is quiescent (70_reset_and_hazards.md R169). -/
def Ended (s : State) : Prop := s.inputs = [] ∧ s.uq = []

/-- What is observed at the end of a run (R169). -/
structure Observation where
  trace : List Event
  status : Byte
  faultRecord : List FaultEntry
deriving DecidableEq, Repr

/-- The observation of a state. -/
def observe (s : State) : Observation :=
  { trace := s.trace, status := s.status, faultRecord := s.faultRecord }

/-- The directions are the same. -/
def SameDirs (s t : State) : Prop := t.dirClk = s.dirClk ∧ t.dirDio = s.dirDio

/-- BRIGHTNESS and FRAME are the same. -/
def SameData (s t : State) : Prop := t.brightness = s.brightness ∧ t.frame = s.frame

/-- The stored acknowledge bits are the same. -/
def SameAcks (s t : State) : Prop := t.ackLast = s.ackLast ∧ t.nackSeen = s.nackSeen

/-- The stored error bits are the same. -/
def SameErrors (s t : State) : Prop := t.errIllegal = s.errIllegal ∧ t.errBusy = s.errBusy

/-- Every stored STATUS bit is the same. -/
def SameFlags (s t : State) : Prop := SameAcks s t ∧ SameErrors s t ∧ t.brtSet = s.brtSet

/-- The queue and the model's own program are the same. -/
def SameQueue (s t : State) : Prop := t.uq = s.uq ∧ t.prog = s.prog

/-- What the outside will still do is the same, and how many draws were taken. -/
def SameOutside (s t : State) : Prop := t.inputs = s.inputs ∧ t.draws = s.draws ∧ t.drawCount = s.drawCount

/-- The trace and the fault record are the same. -/
def SameRecords (s t : State) : Prop := t.trace = s.trace ∧ t.faultRecord = s.faultRecord

/-- Two states that differ at most in what an acknowledge can reach: ACK_LAST, NACK_SEEN, DIR_DIO, the trace and the draws
(42_transport.md R101). -/
def SameButAcks (s t : State) : Prop :=
  t.dirClk = s.dirClk ∧ SameData s t ∧ SameErrors s t ∧ t.brtSet = s.brtSet ∧ SameQueue s t ∧
    t.inputs = s.inputs ∧ t.faultRecord = s.faultRecord

end Sys2Proof
end

