-- ==== Sys2Proof/Certificates/Slice0/Obligations.lean ====
section
/-! DEFINITION. The statements for the provers, each a rule of the spec or what follows from its rules. Order: reset, encoding, the
step, the host commands, the line micro-operations, the transport operations, the display update, whole-machine rules, the
host's side. -/

open Sys2Proof Sys2Proof.Machine

/-! ## Reset -/

/-- The state after reset holds the values of 70_reset_and_hazards.md R151's table: STATUS 0x02, both lines released, FRAME blank,
`uq` empty. BRIGHTNESS is the OPEN parameter, whatever it is (notes/assumptions/1.md). -/
def Obligations.ResetStateHoldsSpecValues : Prop :=
  State.reset.uq = [] ∧ State.reset.dirClk = .IN ∧ State.reset.dirDio = .IN ∧
    State.reset.brightness = Config.brightnessReset ∧ (∀ i, State.reset.slot i = 0x00#8) ∧
    State.reset.status = 0x02#8 ∧ (∀ l, State.reset.outLatch l = 0#1) ∧
    State.reset.trace = [.reset] ∧ State.reset.faultRecord = []

/-- A reset step from ANY state, in the middle of an update or not, sets every piece of the block's state to its reset value and
emits `Reset` (R151). -/
def Obligations.ResetStepSetsEveryPieceOfState : Prop :=
  ∀ (s : State) (rest : List Input), s.inputs = .reset :: rest →
    ∃ t, step s = .next t ∧ t.uq = [] ∧ t.dirClk = .IN ∧ t.dirDio = .IN ∧
      t.brightness = Config.brightnessReset ∧ (∀ i, t.slot i = 0x00#8) ∧
      t.ackLast = true ∧ t.nackSeen = false ∧ t.errIllegal = false ∧ t.errBusy = false ∧ t.brtSet = false ∧
      t.status = 0x02#8 ∧ (∀ l, t.outLatch l = 0#1) ∧ t.trace = s.trace ++ [.reset]

/-- What a reset step leaves: the fault record, which no step clears (60_exceptions.md R139), and, of the model's own fields, what
the outside will still do. That a reset empties the model's own `prog` and keeps these fields is the model's choice
(notes/assumptions/5.md, 7.md). -/
def Obligations.ResetStepKeepsTheRecordAndTheOutside : Prop :=
  ∀ (s : State) (rest : List Input), s.inputs = .reset :: rest →
    ∃ t, step s = .next t ∧ t.faultRecord = s.faultRecord ∧ t.prog = [] ∧ t.inputs = rest ∧ t.draws = s.draws ∧
      t.drawCount = s.drawCount

/-! ## Encoding -/

/-- Decode and encode agree on every well-formed instruction, with every operand at every value (30_encoding.md R65-R69, R77). -/
def Obligations.DecodeOfEncodeIsTheInstruction : Prop :=
  ∀ i : Instr, i.wellFormed = true → decode (encode i) = .ok i

/-- A word that decodes is the word of the instruction it decodes to, which is well formed: each word has one meaning (R71). -/
def Obligations.DecodedWordIsItsInstructionsWord : Prop :=
  ∀ (c : CodeWord) (i : Instr), decode c = .ok i → i.wellFormed = true ∧ encode i = c

/-- The illegal host words are exactly those of 30_encoding.md R72: (a) an opcode in {0x0, 0x5..0xF}, (b) a reserved bit set,
(c) a SETSEG word with LEN in {5, 6, 7}. The all-zero word is one. Presented while idle, such a word sets ERR_ILLEGAL and is
otherwise dropped (with its entry in the fault record, 60_exceptions.md R139). -/
def Obligations.IllegalWordsAreExactlyTheListed : Prop :=
  (∀ w : CmdWord, (∃ e, decodeCmd w = .error e) ↔
    (w.toNat / 0x1000 = 0 ∨ 5 ≤ w.toNat / 0x1000) ∨
    (w.toNat / 0x1000 = 1 ∧ w.toNat / 0x100 % 16 ≠ 0) ∨
    (w.toNat / 0x1000 = 2 ∧ w.toNat / 0x400 % 4 ≠ 0) ∨
    (w.toNat / 0x1000 = 3 ∧ w.toNat / 0x800 % 2 ≠ 0) ∨
    (w.toNat / 0x1000 = 4 ∧ w.toNat % 0x1000 ≠ 0) ∨
    (w.toNat / 0x1000 = 3 ∧ 5 ≤ w.toNat / 0x100 % 8)) ∧
  (∃ e, decodeCmd 0x0000#16 = .error e) ∧
  (∀ (w : CmdWord) (s : State), (∃ e, decodeCmd w = .error e) → s.uq = [] →
    accept w s = .next { s with
      errIllegal := true, faultRecord := s.faultRecord ++ [{ cause := .illegal, word := w }] })

/-- The encoding examples of 30_encoding.md R82, legal and illegal, and one micro-word of each family of R77. -/
def Obligations.SpecExampleWordsDecode : Prop :=
  decodeCmd 0x10FF#16 = .ok (.setbrt 0xFF#8) ∧ decodeCmd 0x1007#16 = .ok (.setbrt 7#8) ∧
    decodeCmd 0x2006#16 = .ok (.ldslot 0#2 0x06#8) ∧ decodeCmd 0x2380#16 = .ok (.ldslot 3#2 0x80#8) ∧
    decodeCmd 0x3400#16 = .ok (.setseg 4#3 0#8) ∧ decodeCmd 0x3105#16 = .ok (.setseg 1#3 5#8) ∧
    decodeCmd 0x4000#16 = .ok .clrst ∧
    decodeCmd 0x0000#16 = .error (.opcode 0#4) ∧ decodeCmd 0x1100#16 = .error .reservedBits ∧
    decodeCmd 0x3500#16 = .error (.length 5#3) ∧ decodeCmd 0x4001#16 = .error .reservedBits ∧
    decodeCmd 0x5000#16 = .error (.opcode 5#4) ∧
    decodeUop 0x101#12 = .ok (.drvlo .dio) ∧ decodeUop 0x401#12 = .ok .sample ∧ decodeUop 0xA40#12 = .ok (.wrb 0x40#8)

/-- The wire bytes (30_encoding.md R74): the address byte has bits 7:6 = 11, bits 5:2 = 0 and bits 1:0 of the position; the
display-control byte has bit 7 = 1, bits 6:4 = 0 and the brightness nibble. -/
def Obligations.WireBytesHaveTheirFixedBits : Prop :=
  preambleByte = 0x40#8 ∧
    (∀ pos : Byte, (addressByte pos).toNat = 0xC0 + pos.toNat % 4) ∧
    (∀ b : BitVec 4, (controlByte b).toNat = 0x80 + b.toNat)

/-! ## The step -/

/-- A sequencer step runs the head of `uq`, removed first (41_line_ops.md R85), when nothing is placed in the model's own `prog` and
the outside does nothing at this step. -/
def Obligations.SequencerStepRunsTheHead : Prop :=
  ∀ (s : State) (u : MicroOp) (rest : List MicroOp), s.prog = [] → s.uq = u :: rest →
    (s.inputs = [] → step s = exec u.toInstr { s with uq := rest }) ∧
    (∀ is, s.inputs = .idle :: is → step s = exec u.toInstr { s with uq := rest, inputs := is })

/-- An accept step of an idle block runs the decoded instruction (43_commands.md R104). -/
def Obligations.AcceptStepRunsTheDecodedCommand : Prop :=
  ∀ (s : State) (w : CmdWord) (is : List Input) (i : Instr), s.inputs = .present w :: is → s.uq = [] →
    decodeCmd w = .ok i → step s = exec i { s with inputs := is }

/-- Every well-formed instruction placed by `withFetchWord`, from its number in the opcode table, is what the next step runs, on a
state that differs from `s` at most in `uq` and `prog` (notes/assumptions/5.md). -/
def Obligations.PlacedInstructionIsRunNext : Prop :=
  ∀ (s : State) (i : Instr), i.wellFormed = true →
    decodeTableWord 16 (encode i).toNat = some i ∧
    ∃ s', step (s.withFetchWord 16 (encode i).toNat) = exec i s' ∧
      { s' with uq := s.uq, prog := s.prog } = s

/-- With nothing queued and nothing from outside, a step leaves the block as it is (41_line_ops.md R85, "it takes no step when
`uq` is empty"). The model's choice for a step in which no agent moves: notes/assumptions/4.md. -/
def Obligations.IdleStepChangesNothing : Prop :=
  ∀ s : State, s.uq = [] → s.prog = [] → s.inputs = [] → step s = .next s

/-- A word presented while BUSY = 1 is dropped undecoded: ERR_BUSY, the fault record, and nothing else (43_commands.md R104, R105;
60_exceptions.md R148: it does not stop the running update). -/
def Obligations.WordPresentedWhileBusyIsDropped : Prop :=
  ∀ (s : State) (w : CmdWord) (is : List Input), s.inputs = .present w :: is → s.uq ≠ [] →
    step s = .next { s with
      errBusy := true, inputs := is, faultRecord := s.faultRecord ++ [{ cause := .busy, word := w }] }

/-- An illegal word presented while idle is dropped: ERR_ILLEGAL, the fault record, and nothing else (43_commands.md R111). -/
def Obligations.IllegalWordPresentedIdleIsDropped : Prop :=
  ∀ (s : State) (w : CmdWord) (is : List Input) (e : DecodeError), s.inputs = .present w :: is → s.uq = [] →
    decodeCmd w = .error e →
    step s = .next { s with
      errIllegal := true, inputs := is, faultRecord := s.faultRecord ++ [{ cause := .illegal, word := w }] }

/-- BUSY is tested before decoding, and one accept step sets at most one error flag (43_commands.md R105): a word presented while
busy sets ERR_BUSY only, legal or not; ERR_ILLEGAL is set only by an illegal word presented while idle. -/
def Obligations.AcceptSetsAtMostOneErrorFlag : Prop :=
  ∀ (s t : State) (w : CmdWord), accept w s = .next t →
    (s.uq ≠ [] → t.errBusy = true ∧ t.errIllegal = s.errIllegal) ∧
    (s.uq = [] → (∃ e, decodeCmd w = .error e) → t.errIllegal = true) ∧
    (s.errBusy = false → t.errBusy = true → s.uq ≠ [] ∧ t.errIllegal = s.errIllegal) ∧
    (s.errIllegal = false → t.errIllegal = true → s.uq = [] ∧ (∃ e, decodeCmd w = .error e) ∧ t.errBusy = s.errBusy)

/-- SETBRT, LDSLOT, CLRST and illegal words leave `uq` empty; only SETSEG makes the block busy (43_commands.md R106). -/
def Obligations.OnlySetsegMakesTheBlockBusy : Prop :=
  ∀ (s t : State) (w : CmdWord), s.uq = [] → accept w s = .next t →
    (t.busy = true ↔ ∃ len pos, decodeCmd w = .ok (.setseg len pos))

/-- The STATUS layout (10_state.md R30, R31): BUSY derived from `uq`, 0 after reset, the stored bits in their places, bits 7:6
always 0. -/
def Obligations.StatusHasItsLayout : Prop :=
  State.reset.busy = false ∧ ∀ s : State, (s.busy = true ↔ s.uq ≠ []) ∧
    (s.status.getLsbD 0 = true ↔ s.uq ≠ []) ∧ s.status.getLsbD 1 = s.ackLast ∧ s.status.getLsbD 2 = s.nackSeen ∧
      s.status.getLsbD 3 = s.errIllegal ∧ s.status.getLsbD 4 = s.errBusy ∧ s.status.getLsbD 5 = s.brtSet ∧
      s.status.getLsbD 6 = false ∧ s.status.getLsbD 7 = false

/-! ## The host commands -/

/-- SETBRT level (43_commands.md R107): BRIGHTNESS <- the low nibble, BRT_SET <- 1, nothing else, nothing on the bus. -/
def Obligations.SetbrtStoresTheLowNibble : Prop :=
  ∀ (level : Byte) (s : State), encode (.setbrt level) = .cmd16 (0x1000#16 ||| level.zeroExtend 16) ∧
    ∃ t, exec (.setbrt level) s = .next t ∧ t.brightness.toNat = level.toNat % 16 ∧
      t.brtSet = true ∧ t.status = s.status ||| 0x20#8 ∧
      t.frame = s.frame ∧ SameDirs s t ∧ SameAcks s t ∧ SameErrors s t ∧ SameQueue s t ∧ SameRecords s t ∧ SameOutside s t

/-- LDSLOT slot, mask (43_commands.md R108): FRAME[slot] <- mask; every other slot and everything else as before. -/
def Obligations.LdslotWritesOneSlot : Prop :=
  ∀ (slot : BitVec 2) (mask : Byte) (s : State),
    encode (.ldslot slot mask) = .cmd16 (0x2000#16 ||| (slot.zeroExtend 16) <<< 8 ||| mask.zeroExtend 16) ∧
    ∃ t, exec (.ldslot slot mask) s = .next t ∧ t.slot slot = mask ∧ (∀ j, j ≠ slot → t.slot j = s.slot j) ∧
      t.status = s.status ∧ t.brightness = s.brightness ∧ SameDirs s t ∧ SameFlags s t ∧ SameQueue s t ∧
      SameRecords s t ∧ SameOutside s t

/-- SETSEG len, pos with len in 0..4 (43_commands.md R109): `uq` becomes the three transactions `[0x40]`,
`[0xC0 | pos & 3, FRAME[0], …, FRAME[len-1]]`, `[0x80 | BRIGHTNESS]`, each START, WRBs, STOP; it is `198 + 58·len` micro-ops and
BUSY is 1; everything else is as before and nothing is on the bus yet. -/
def Obligations.SetsegLoadsThreeTransactions : Prop :=
  ∀ (len : BitVec 3) (pos : Byte) (s : State), len.toNat ≤ 4 →
    encode (.setseg len pos) = .cmd16 (0x3000#16 ||| (len.zeroExtend 16) <<< 8 ||| pos.zeroExtend 16) ∧
    ∃ t, exec (.setseg len pos) s = .next t ∧
      t.uq = (updateBytes s.frame s.brightness len pos).flatMap
        (fun bytes => startOps ++ bytes.flatMap wrbOps ++ stopOps) ∧
      t.uq.length = 198 + 58 * len.toNat ∧ t.busy = true ∧ t.status = s.status ||| 0x01#8 ∧
      t.prog = s.prog ∧ SameDirs s t ∧ SameData s t ∧ SameFlags s t ∧ SameRecords s t ∧ SameOutside s t

/-- SETSEG with LEN in 5..7 is no command (30_encoding.md R72 (c)). THE MODEL'S CHOICE for the meaning of that ill-formed term
(notes/assumptions/10.md): what the accept step does with its word, ERR_ILLEGAL and nothing else. -/
def Obligations.SetsegOfIllegalLengthIsDropped : Prop :=
  ∀ (len : BitVec 3) (pos : Byte) (s : State), 4 < len.toNat →
    ∃ w, encode (.setseg len pos) = .cmd16 w ∧ (∃ e, decodeCmd w = .error e) ∧
      exec (.setseg len pos) s = .next { s with
        errIllegal := true, faultRecord := s.faultRecord ++ [{ cause := .illegal, word := w }] }

/-- CLRST (43_commands.md R110): NACK_SEEN, ERR_ILLEGAL, ERR_BUSY <- 0; ACK_LAST, BRT_SET, the fault record (60_exceptions.md R139)
and everything else as before. -/
def Obligations.ClrstClearsThreeFlags : Prop :=
  ∀ s : State, encode .clrst = .cmd16 0x4000#16 ∧
    ∃ t, exec .clrst s = .next t ∧ t.nackSeen = false ∧ t.errIllegal = false ∧ t.errBusy = false ∧
      t.status = s.status &&& 0xE3#8 ∧ t.ackLast = s.ackLast ∧ t.brtSet = s.brtSet ∧
      SameDirs s t ∧ SameData s t ∧ SameQueue s t ∧ SameRecords s t ∧ SameOutside s t

/-! ## The line micro-operations -/

/-- DRVLO L (41_line_ops.md R89): DIR_L <- OUT, `Drive(L)`, level 0 whatever the device does, and driven it stays under every
instruction but REL L; the other line and everything else as before; the state is unchanged but for the event when the line was
driven already (R88). -/
def Obligations.DrvloDrivesTheLineLow : Prop :=
  encode (.drvlo .clk) = .uop12 0x100#12 ∧ encode (.drvlo .dio) = .uop12 0x101#12 ∧
  (∀ (l : Line) (i : Instr) (s t : State), s.dir l = .OUT → i ≠ .rel l → exec i s = .next t → t.dir l = .OUT) ∧
  ∀ (l : Line) (s : State), ∃ t, exec (.drvlo l) s = .next t ∧ t.dir l = .OUT ∧ (∀ l', l' ≠ l → t.dir l' = s.dir l') ∧
    t.trace = s.trace ++ [.drive l] ∧ (∀ ext, level (t.dir l) ext = false) ∧
    (s.dir l = .OUT → { t with trace := s.trace } = s) ∧
    t.status = s.status ∧ t.faultRecord = s.faultRecord ∧ SameData s t ∧ SameFlags s t ∧ SameQueue s t ∧ SameOutside s t

/-- REL L (41_line_ops.md R90): DIR_L <- IN, `Release(L)`, and the level is then the device's; the other line and everything else as
before; the state is unchanged but for the event when the line was released already (R88). -/
def Obligations.RelReleasesTheLine : Prop :=
  encode (.rel .clk) = .uop12 0x200#12 ∧ encode (.rel .dio) = .uop12 0x201#12 ∧
  ∀ (l : Line) (s : State), ∃ t, exec (.rel l) s = .next t ∧ t.dir l = .IN ∧ (∀ l', l' ≠ l → t.dir l' = s.dir l') ∧
    t.trace = s.trace ++ [.release l] ∧ (∀ ext, level (t.dir l) ext = !ext) ∧
    (s.dir l = .IN → { t with trace := s.trace } = s) ∧
    t.status = s.status ∧ t.faultRecord = s.faultRecord ∧ SameData s t ∧ SameFlags s t ∧ SameQueue s t ∧ SameOutside s t

/-- WAIT (41_line_ops.md R91): no register changes, and the event is emitted under every T_UNIT. -/
def Obligations.WaitChangesNoRegister : Prop :=
  encode .wait = .uop12 0x300#12 ∧
  ∀ s : State, ∃ t, exec .wait s = .next t ∧ t.trace = s.trace ++ [.wait] ∧ { t with trace := s.trace } = s

/-- SAMPLE (41_line_ops.md R92): with DIO released, ACK_LAST is the value drawn, NACK_SEEN becomes 1 if it is 1 and is never
cleared, and one draw is taken; with DIO driven by the block itself the value is 0 and no draw is taken. Everything else as before.
It holds for EVERY value a draw may have. -/
def Obligations.SampleRecordsTheLevelOfDio : Prop :=
  encode .sample = .uop12 0x401#12 ∧
  ∀ s : State, ∃ t b, exec .sample s = .next t ∧ t.ackLast = b ∧ (t.nackSeen = true ↔ s.nackSeen = true ∨ b = true) ∧
    t.trace = s.trace ++ [.sample b] ∧
    (s.dirDio = .IN → b = s.drawAt 0 ∧ ∀ k, t.drawAt k = s.drawAt (k + 1)) ∧
    (s.dirDio = .OUT → b = false ∧ ∀ k, t.drawAt k = s.drawAt k) ∧
    SameDirs s t ∧ SameData s t ∧ SameErrors s t ∧ t.brtSet = s.brtSet ∧ SameQueue s t ∧ t.inputs = s.inputs ∧
    t.faultRecord = s.faultRecord

/-- DRVLO_IF_ACK (41_line_ops.md R93): if ACK_LAST = 0, DIR_DIO <- OUT and `Drive(DIO)`; else no change and no event. -/
def Obligations.DrvloIfAckDrivesOnlyIfAcked : Prop :=
  encode .drvloIfAck = .uop12 0x501#12 ∧
  ∀ s : State, ∃ t, exec .drvloIfAck s = .next t ∧
    (s.ackLast = false → t.dirDio = .OUT ∧ t.trace = s.trace ++ [.drive .dio]) ∧
    (s.ackLast = true → t = s) ∧
    t.dirClk = s.dirClk ∧ t.status = s.status ∧ t.faultRecord = s.faultRecord ∧ SameData s t ∧ SameFlags s t ∧
    SameQueue s t ∧ SameOutside s t

/-! ## The transport operations -/

/-- START and STOP (42_transport.md R96, R97): their expansions, placed in `uq` (notes/assumptions/6.md); nothing else. -/
def Obligations.StartAndStopQueueTheirExpansions : Prop :=
  encode .start = .uop12 0x800#12 ∧ encode .stop = .uop12 0x900#12 ∧
  ∀ s : State,
    exec .start s = .next { s with uq := s.uq ++ [.drvlo .dio, .wait] } ∧
    exec .stop s = .next { s with
      uq := s.uq ++ [.drvlo .dio, .wait, .rel .clk, .wait, .rel .dio, .wait] }

/-- WRB b (42_transport.md R98, R99, R100): its 58 micro-ops, 28 of them WAITs, placed in `uq`: the i-th bit group carries b[i], and
the ACK tail follows; nothing else changes. -/
def Obligations.WrbQueuesBitsLsbFirstThenAckTail : Prop :=
  ∀ (b : Byte) (s : State), encode (.wrb b) = .uop12 (0xA00#12 ||| b.zeroExtend 12) ∧
    ∃ q, exec (.wrb b) s = .next { s with uq := s.uq ++ q } ∧ q.length = 58 ∧ q.count .wait = 28 ∧
      (∀ i, i < 8 → (q.drop (6 * i)).take 6 =
        [.drvlo .clk, .wait, if b.getLsbD i then .rel .dio else .drvlo .dio, .wait, .rel .clk, .wait]) ∧
      q.drop 48 = [.drvlo .clk, .rel .dio, .wait, .rel .clk, .wait, .sample, .drvloIfAck, .wait, .drvlo .clk, .wait]

/-- START run from the idle bus: DIO falls while CLK is released, the start condition (R96; 95_test_vectors.md V-T1). -/
def Obligations.StartRunFromIdleDrivesDioLow : Prop :=
  ∀ s : State, Quiet s → ∃ t u, exec .start s = .next t ∧ runSteps 2 t = .next u ∧
    u.uq = [] ∧ u.dirClk = .IN ∧ u.dirDio = .OUT ∧ u.trace = s.trace ++ [.drive .dio, .wait] ∧
    SameData s u ∧ SameFlags s u

/-- STOP run with CLK driven low: both lines end released, DIO last, the stop condition (R97; V-T2). -/
def Obligations.StopRunReleasesBothLines : Prop :=
  ∀ s : State, s.uq = [] → s.prog = [] → s.inputs = [] → s.dirClk = .OUT →
    ∃ t u, exec .stop s = .next t ∧ runSteps 6 t = .next u ∧ Quiet u ∧
      u.trace = s.trace ++ [.drive .dio, .wait, .release .clk, .wait, .release .dio, .wait] ∧
      SameData s u ∧ SameFlags s u

/-- WRB b run from any directions, in 58 sequencer steps: it emits the byte's events, ACK_LAST is the draw, CLK ends driven low and
DIO is driven low exactly if the byte was acknowledged (R98, R100, R101; V-T3 to V-T5). It holds for every value of the draw. -/
def Obligations.WrbRunSendsTheByteAndSamplesTheAck : Prop :=
  ∀ (b : Byte) (s : State), s.uq = [] → s.prog = [] → s.inputs = [] →
    ∃ t u, exec (.wrb b) s = .next t ∧ runSteps 58 t = .next u ∧
      u.uq = [] ∧ u.ackLast = s.drawAt 0 ∧ (u.nackSeen = true ↔ s.nackSeen = true ∨ s.drawAt 0 = true) ∧
      u.dirClk = .OUT ∧ (u.dirDio = .OUT ↔ s.drawAt 0 = false) ∧
      u.trace = s.trace ++ byteEvents b (s.drawAt 0) ∧ (∀ k, u.drawAt k = s.drawAt (k + 1)) ∧
      SameData s u ∧ SameErrors s u ∧ u.brtSet = s.brtSet ∧ u.faultRecord = s.faultRecord

/-! ## The display update -/

/-- One display update from an idle bus (43_commands.md R109, R113, R115, R116; 70_reset_and_hazards.md R161, R166): it is
busy for exactly `198 + 58·len` sequencer steps, whatever is drawn; then the block is quiet again with both lines released, it has
emitted exactly the update's events, ACK_LAST is the display-control byte's acknowledge and NACK_SEEN the OR of the bits read. -/
def Obligations.DisplayUpdateRunsToItsEnd : Prop :=
  ∀ (len : BitVec 3) (pos : Byte) (s : State), len.toNat ≤ 4 → Quiet s →
    ∃ t u, exec (.setseg len pos) s = .next t ∧ runSteps (198 + 58 * len.toNat) t = .next u ∧
      (∀ k, k < 198 + 58 * len.toNat → ∃ v, runSteps k t = .next v ∧ v.busy = true) ∧
      Quiet u ∧ u.trace = s.trace ++ updateEvents (fun k => s.drawAt k) s.frame s.brightness len pos ∧
      u.ackLast = s.drawAt (len.toNat + 2) ∧
      (u.nackSeen = true ↔ s.nackSeen = true ∨ ∃ k, k < len.toNat + 3 ∧ s.drawAt k = true) ∧
      (∀ k, u.drawAt k = s.drawAt (k + (len.toNat + 3))) ∧
      SameData s u ∧ SameErrors s u ∧ u.brtSet = s.brtSet ∧ u.faultRecord = s.faultRecord

/-- What a two-wire recorder recovers from the line levels of an update, with a device that complies, is its three
bracketed transactions, byte for byte, under EVERY draw (43_commands.md R118, 42_transport.md R103; W1). The recorder and the
compliant device are the model's (notes/assumptions/13.md, 14.md). -/
def Obligations.RecorderRecoversTheUpdatesBytes : Prop :=
  ∀ (len : BitVec 3) (pos : Byte) (s t u : State), len.toNat ≤ 4 → Quiet s →
    exec (.setseg len pos) s = .next t → runSteps (198 + 58 * len.toNat) t = .next u →
    recover (compliantLevels (u.trace.drop s.trace.length)) = updateBytes s.frame s.brightness len pos

/-- The size of one display update (43_commands.md R113): three transactions of `3 + len` WRBs in all; its events are `198 + 58·len` less the number of SAMPLEs that read 1, it
has `96 + 28·len` WAITs and `3 + len` SAMPLEs; at the reference T_UNIT of 50 µs its holds take at least `4800 + 1400·len` µs
(70_reset_and_hazards.md R168). -/
def Obligations.DisplayUpdateHasItsSize : Prop :=
  ∀ (len : BitVec 3) (pos : Byte) (s t u : State), len.toNat ≤ 4 → Quiet s →
    exec (.setseg len pos) s = .next t → runSteps (198 + 58 * len.toNat) t = .next u →
    (∃ p, t.uq = expandProgram p ∧ p.count .start = 3 ∧ p.count .stop = 3 ∧ p.length = 3 + 3 + (3 + len.toNat)) ∧
      t.uq.length = 198 + 58 * len.toNat ∧ t.uq.count .wait = 96 + 28 * len.toNat ∧ t.uq.count .sample = 3 + len.toNat ∧
      ∃ es, u.trace = s.trace ++ es ∧ es.length + (samples es).count true = 198 + 58 * len.toNat ∧
        waits es = 96 + 28 * len.toNat ∧ (samples es).length = 3 + len.toNat ∧
        minHold Config.tUnitDefault es = 4800 + 1400 * len.toNat

/-- Idempotence (43_commands.md R117): with the same FRAME[0..len-1], BRIGHTNESS, len and pos[1:0], two SETSEGs load the same `uq`,
and with the same draws they emit the same events, whatever else differs. -/
def Obligations.SameUpdateSameQueueSameEvents : Prop :=
  ∀ (len : BitVec 3) (pos pos' : Byte) (s s' : State), len.toNat ≤ 4 → pos.toNat % 4 = pos'.toNat % 4 →
    s.brightness = s'.brightness → (∀ i : BitVec 2, i.toNat < len.toNat → s.slot i = s'.slot i) →
    ∃ t t', exec (.setseg len pos) s = .next t ∧ exec (.setseg len pos') s' = .next t' ∧ t.uq = t'.uq ∧
      (Quiet s → Quiet s' → (∀ k, k < len.toNat + 3 → s.drawAt k = s'.drawAt k) →
        ∃ u u', runSteps (198 + 58 * len.toNat) t = .next u ∧ runSteps (198 + 58 * len.toNat) t' = .next u' ∧
          u.trace.drop s.trace.length = u'.trace.drop s'.trace.length)

/-- No cancellation (60_exceptions.md R148, 20_memory.md R57 (c)): words presented while an update runs, at whatever
points of it, leave its run as it would have been without them, but for ERR_BUSY and the fault record; the sequencer still takes
its steps one by one and ends after as many. -/
def Obligations.WordsPresentedMeanwhileDoNotDisturbTheUpdate : Prop :=
  ∀ s : State, s.prog = [] → (∀ i ∈ s.inputs, i ≠ .reset) → s.inputs.count .idle = s.uq.length →
    (∀ i, s.inputs.getLast? = some i → i = .idle) →
    ∃ u v, runSteps s.inputs.length s = .next u ∧ runSteps s.uq.length { s with inputs := [] } = .next v ∧
      v.uq = [] ∧ v.inputs = [] ∧ { u with errBusy := v.errBusy, faultRecord := v.faultRecord } = v ∧
      (u.errBusy = true ↔ s.errBusy = true ∨ ∃ w, Input.present w ∈ s.inputs) ∧
      u.faultRecord.length + s.uq.length = s.faultRecord.length + s.inputs.length

/-! ## Whole-machine rules -/

/-- No step faults or refuses, from any state at all: no trap (60_exceptions.md R134), and no step waits on a line (41_line_ops.md
R94), so no device can hang the block. -/
def Obligations.EveryStepAnswersANextState : Prop :=
  ∀ s : State, ∃ t, step s = .next t

/-- The invariant holds after reset. -/
def Obligations.InvariantHoldsAtReset : Prop :=
  Inv State.reset ∧ QueueFromUpdate State.reset

/-- HEADLINE. Every step keeps the queue's discipline: what is queued samples only a released DIO with CLK released and ends with
both lines released (43_commands.md R115, 41_line_ops.md R92). -/
def Obligations.EveryStepKeepsTheInvariant : Prop :=
  ∀ s t : State, Inv s → step s = .next t → Inv t

/-- Every step keeps `uq` what remains of one display update (10_state.md R37): no raw START or other micro-op can ever stand there
(43_commands.md R112). -/
def Obligations.EveryStepKeepsTheQueueOfOneUpdate : Prop :=
  ∀ s t : State, QueueFromUpdate s → step s = .next t → QueueFromUpdate t

/-- HEADLINE, the bus idle (43_commands.md R115): however long a machine runs from a state of the invariant, whatever the host, the
device and the reset source do, whenever it is not busy both lines are released; and a SAMPLE always finds DIO released by the
block, so that its value is the device's answer (41_line_ops.md R92). The state after reset meets the invariant, whatever the
outside will do. -/
def Obligations.LinesAreReleasedWheneverNotBusy : Prop :=
  (∀ is ds, Inv { State.reset with inputs := is, draws := ds }) ∧
  ∀ (k : Nat) (s t : State), Inv s → runSteps k s = .next t →
    (t.busy = false → BusReleased t) ∧
    (∀ rest, t.uq = .sample :: rest → t.dirDio = .IN ∧ t.dirClk = .IN)

/-- HEADLINE, acknowledges are ignored (43_commands.md R116, 42_transport.md R101): two machines that differ only in what an
acknowledge can reach stay so through any run; in particular their queues, their CLK direction, BRIGHTNESS, FRAME and error
flags are always the same. -/
def Obligations.AcknowledgesNeverChangeTheSequence : Prop :=
  ∀ (k : Nat) (s t s' : State), SameButAcks s t → runSteps k s = .next s' →
    ∃ t', runSteps k t = .next t' ∧ SameButAcks s' t'

/-- Outside reset the directions are changed by the line micro-ops only: DIR_CLK by DRVLO CLK and REL CLK, DIR_DIO by DRVLO DIO,
REL DIO and DRVLO_IF_ACK (10_state.md R23, R24; 41_line_ops.md R83). -/
def Obligations.OnlyLineOpsChangeDirections : Prop :=
  ∀ (i : Instr) (s t : State), exec i s = .next t →
    (t.dirClk ≠ s.dirClk → i = .drvlo .clk ∨ i = .rel .clk) ∧
    (t.dirDio ≠ s.dirDio → i = .drvlo .dio ∨ i = .rel .dio ∨ i = .drvloIfAck)

/-- Outside reset BRIGHTNESS is written by SETBRT only, FRAME by LDSLOT only, ACK_LAST by SAMPLE only, and BRT_SET is set by
SETBRT only and never cleared (10_state.md R28, R29, R30, R36). -/
def Obligations.RegistersHaveOneWriter : Prop :=
  ∀ (i : Instr) (s t : State), exec i s = .next t →
    (t.brightness ≠ s.brightness → ∃ level, i = .setbrt level) ∧
    (t.frame ≠ s.frame → ∃ slot mask, i = .ldslot slot mask) ∧
    (t.ackLast ≠ s.ackLast → i = .sample) ∧
    (t.brtSet ≠ s.brtSet → t.brtSet = true ∧ ∃ level, i = .setbrt level) ∧
    (t.nackSeen ≠ s.nackSeen → (t.nackSeen = true ∧ i = .sample) ∨ (t.nackSeen = false ∧ i = .clrst))

/-- The sticky flags are cleared by an accepted CLRST and by reset, and by nothing else; BRT_SET by reset only (10_state.md R30,
60_exceptions.md R135). -/
def Obligations.StickyFlagsAreClearedOnlyByClrstOrReset : Prop :=
  ∀ s t : State, step s = .next t → s.prog = [] →
    ((s.nackSeen = true ∧ t.nackSeen = false ∨ s.errIllegal = true ∧ t.errIllegal = false ∨
        s.errBusy = true ∧ t.errBusy = false) →
      (s.uq = [] ∧ s.inputs.head? = some (.present 0x4000#16)) ∨ s.inputs.head? = some .reset) ∧
    (s.brtSet = true → t.brtSet = false → s.inputs.head? = some .reset)

/-- The trace and the fault record only grow: no step, a CLRST and a reset among them, removes an entry (60_exceptions.md R139). -/
def Obligations.TraceAndFaultRecordOnlyGrow : Prop :=
  ∀ s t : State, step s = .next t → s.trace <+: t.trace ∧ s.faultRecord <+: t.faultRecord

/-- An entry joins the fault record exactly when a word is dropped, and the flag of its cause is then set (60_exceptions.md R139,
R132). A NACK is no entry. -/
def Obligations.FaultRecordGrowsExactlyWithDroppedWords : Prop :=
  ∀ s t : State, s.prog = [] → step s = .next t →
    (t.faultRecord = s.faultRecord ∨ ∃ e, t.faultRecord = s.faultRecord ++ [e]) ∧
    ((∃ e, t.faultRecord = s.faultRecord ++ [e]) ↔
      ∃ w, s.inputs.head? = some (.present w) ∧ (s.uq ≠ [] ∨ ∃ e, decodeCmd w = .error e)) ∧
    (∀ e, t.faultRecord = s.faultRecord ++ [e] →
      match e.cause with
      | .busy => t.errBusy = true
      | .illegal => t.errIllegal = true)

/-- The queue advances by exactly one micro-op per sequencer step (10_state.md R39), which emits its one event, except a
DRVLO_IF_ACK that does not drive, which emits none; a direction write emits its event also when the line has that direction
already, and then changes no direction (41_line_ops.md R86). -/
def Obligations.SequencerStepAdvancesByOneAndEmitsOneEvent : Prop :=
  ∀ (s : State) (u : MicroOp) (rest : List MicroOp), s.prog = [] → s.inputs = [] → s.uq = u :: rest →
    ∃ t, step s = .next t ∧ t.uq = rest ∧
      t.trace = s.trace ++ (match u with
        | .drvlo l => [.drive l]
        | .rel l => [.release l]
        | .wait => [.wait]
        | .sample => [.sample t.ackLast]
        | .drvloIfAck => if s.ackLast = false then [.drive .dio] else []) ∧
      (∀ l, (u = .drvlo l ∧ s.dir l = .OUT) ∨ (u = .rel l ∧ s.dir l = .IN) → ∀ l', t.dir l' = s.dir l')

/-- The block never drives a line high (10_state.md R25, R26): in every state each pad's output value is 0, and its output enable is
1 exactly when the line's direction is OUT. A released line shows what the outside pulls (R27). -/
def Obligations.PadsNeverDriveHigh : Prop :=
  ∀ (l : Line) (s : State), (s.pad l).o = 0#1 ∧ ((s.pad l).oe = true ↔ s.dir l = .OUT) ∧
    (∀ ext, level (s.dir l) ext = true ↔ (s.pad l).oe = false ∧ ext = false)

/-! ## The host's side -/

/-- The assembler (30_encoding.md R79) spells the four commands and raw words, and refuses an operand outside its range; it never
wraps one. -/
def Obligations.AssemblerRefusesWhatItCannotSpell : Prop :=
  ∀ (seg : Byte → Byte) (a b : Nat),
    assembleLine seg (.setbrt a) = (if a ≤ 255 then some [.word (BitVec.ofNat 16 (0x1000 + a))] else none) ∧
    assembleLine seg (.ldslot a b) =
      (if a ≤ 3 ∧ b ≤ 255 then some [.word (BitVec.ofNat 16 (0x2000 + a * 0x100 + b))] else none) ∧
    assembleLine seg (.setseg a b) =
      (if a ≤ 4 ∧ b ≤ 255 then some [.word (BitVec.ofNat 16 (0x3000 + a * 0x100 + b))] else none) ∧
    assembleLine seg .clrst = some [.word 0x4000#16] ∧
    assembleLine seg (.rawWord a) = (if a ≤ 0xFFFF then some [.word (BitVec.ofNat 16 a)] else none)

/-- SHOW from the idle bus (30_encoding.md R81): its host operations fill the frame and run one update of all four slots,
no word is dropped, and the block is quiet again. -/
def Obligations.ShowDisplaysFourMasks : Prop :=
  ∀ (masks : Vector Byte 4) (pos : Byte) (s : State), Quiet s →
    ∃ ops u, showFour masks pos = some ops ∧ drive ops s = .next u ∧ Quiet u ∧ u.frame = masks ∧
      u.brightness = s.brightness ∧ SameErrors s u ∧ u.brtSet = s.brtSet ∧ u.faultRecord = s.faultRecord ∧
      u.trace = s.trace ++ updateEvents (fun k => s.drawAt k) masks s.brightness 4#3 pos

/-- A text of digit-class characters fills the slots from slot 0, blank behind, and is cut after the fourth (44_frame_builder.md R125,
R126), for every SEG_TABLE. -/
def Obligations.DigitsFillTheSlotsAndAreTruncated : Prop :=
  ∀ (seg : Byte → Byte) (text : List Byte), (∀ ch ∈ text, isPunct ch = false) →
    (buildFrame seg text).toList = (text.map seg ++ List.replicate 4 0x00#8).take 4

/-- A digit-class character met when all four slots are taken is dropped: whatever follows, the frame is as without it, so that
punctuation after it still folds into slot 3 (R126, R128); for every SEG_TABLE. -/
def Obligations.CharactersBeyondTheFourthAreDropped : Prop :=
  ∀ (seg : Byte → Byte) (text rest : List Byte) (ch : Byte), 4 ≤ text.countP (fun c => !isPunct c) → isPunct ch = false →
    buildFrame seg (text ++ ch :: rest) = buildFrame seg (text ++ rest)

/-- Punctuation ORs only bit 7 of its mask into one slot's mask (R127): it clears no bit, sets no other, and a second one of the same
kind changes nothing; before any digit-class character it is dropped. For every SEG_TABLE. -/
def Obligations.PunctuationFoldsOnlyBitSeven : Prop :=
  ∀ (seg : Byte → Byte) (text : List Byte) (ch : Byte), isPunct ch = true →
    (buildFrame seg (text ++ [ch]) = buildFrame seg text ∨ ∃ c : Fin 4, buildFrame seg (text ++ [ch]) =
      (buildFrame seg text).set c.val ((buildFrame seg text)[c] ||| (seg ch &&& 0x80#8))) ∧
    buildFrame seg (text ++ [ch, ch]) = buildFrame seg (text ++ [ch]) ∧
    ((∀ c ∈ text, isPunct c = true) → buildFrame seg (text ++ [ch]) = Vector.replicate 4 0x00#8)

/-- The fold is into the slot of the PRECEDING digit-class character, and takes no slot of its own (44_frame_builder.md R125, R127):
after a text with n >= 1 digit-class characters that is slot min n 4 - 1, so slot 3 when a fifth was dropped (R128), and the next
digit-class character still goes to slot n. The source's "1.2" is the last clause. For every SEG_TABLE and text. -/
def Obligations.PunctuationFoldsIntoThePrecedingSlot : Prop :=
  ∀ (seg : Byte → Byte) (p : Byte), isPunct p = true →
    (∀ (text : List Byte) (c : Fin 4), c.val + 1 = min (text.countP fun ch => !isPunct ch) 4 →
      buildFrame seg (text ++ [p]) =
        (buildFrame seg text).set c.val ((buildFrame seg text)[c] ||| (seg p &&& 0x80#8))) ∧
    (∀ (text : List Byte) (b : Byte) (c : Fin 4), c.val = (text.countP fun ch => !isPunct ch) → isPunct b = false →
      buildFrame seg (text ++ [p, b]) = (buildFrame seg (text ++ [p])).set c.val (seg b)) ∧
    (∀ a b : Byte, isPunct a = false → isPunct b = false →
      buildFrame seg [a, p, b] = #v[seg a ||| (seg p &&& 0x80#8), seg b, 0x00#8, 0x00#8])

/-- SHOWTEXT (44_frame_builder.md R129): SHOW of the built frame at position 0; its host words load the four slots and then are
SETSEG 4, 0, preceded and followed by WAITIDLE. For every SEG_TABLE and text. -/
def Obligations.ShowtextSendsTheBuiltFrameAtPositionZero : Prop :=
  ∀ (seg : Byte → Byte) (text : List Byte),
    showText seg text = showFour (buildFrame seg text) 0x00#8 ∧
    showText seg text = some [.waitIdle,
      .word (0x2000#16 ||| (buildFrame seg text)[0].zeroExtend 16), .word (0x2100#16 ||| (buildFrame seg text)[1].zeroExtend 16),
      .word (0x2200#16 ||| (buildFrame seg text)[2].zeroExtend 16), .word (0x2300#16 ||| (buildFrame seg text)[3].zeroExtend 16),
      .word 0x3400#16, .waitIdle]

/-- SHOWN of any length from the idle bus (30_encoding.md R81): with up to four masks its host operations load the slots from slot 0,
leave the others, and run one update of as many slots; no word is dropped, and the block is quiet again. More than four masks are
refused (R79). WAITIDLE is the model's reading of it, notes/assumptions/18.md. -/
def Obligations.ShownDisplaysItsMasks : Prop :=
  (∀ (masks : List Byte) (pos : Byte) (s : State), masks.length ≤ 4 → Quiet s →
    ∃ ops u, showSome pos masks = some ops ∧ drive ops s = .next u ∧ Quiet u ∧
      u.frame.toList = masks ++ s.frame.toList.drop masks.length ∧
      u.brightness = s.brightness ∧ SameErrors s u ∧ u.brtSet = s.brtSet ∧ u.faultRecord = s.faultRecord ∧
      u.trace = s.trace ++ updateEvents (fun k => s.drawAt k) u.frame s.brightness (BitVec.ofNat 3 masks.length) pos) ∧
  (∀ (masks : List Byte) (pos : Byte), 4 < masks.length → showSome pos masks = none)
end

