-- ==== Sys2Proof/Laws/HostSide.lean ====
section
/-! SUPPORT. What the host's functions do: one character put into a frame, and a host program driven in two parts. -/

namespace Sys2Proof.Machine

/-- How many slots the cursor has taken: 0 before slot 0 (44_frame_builder.md R125). -/
def slotsTaken : Option (Fin 4) → Nat
  | none => 0
  | some c => c.val + 1

theorem slotsTaken_le (c : Option (Fin 4)) : slotsTaken c ≤ 4 := by
  cases c <;> simp [slotsTaken]

variable (seg : Byte → Byte)

/-- A digit-class character takes the next slot while there is one (R125). -/
theorem FrameCursor.put_digit (f : FrameCursor) {ch : Byte} (h : isPunct ch = false) (hc : slotsTaken f.cursor < 4) :
    (f.put seg ch).masks = f.masks.set (slotsTaken f.cursor) (seg ch) hc ∧
      slotsTaken (f.put seg ch).cursor = slotsTaken f.cursor + 1 := by
  obtain ⟨m, c⟩ := f
  cases c with
  | none => simp [FrameCursor.put, h, truncateToSlots, slotsTaken]
  | some c =>
    simp only [slotsTaken] at hc
    simp [FrameCursor.put, h, truncateToSlots, slotsTaken, hc]

/-- A digit-class character met when every slot is taken changes nothing (R126). -/
theorem FrameCursor.put_full (f : FrameCursor) {ch : Byte} (h : isPunct ch = false) (hc : slotsTaken f.cursor = 4) :
    f.put seg ch = f := by
  obtain ⟨m, c⟩ := f
  cases c with
  | none => simp [slotsTaken] at hc
  | some c =>
    simp only [slotsTaken] at hc
    simp [FrameCursor.put, h, truncateToSlots, hc]

/-- Punctuation folds bit 7 into the current slot (R127). -/
theorem FrameCursor.put_punct (m : Vector Byte 4) (c : Fin 4) {ch : Byte} (h : isPunct ch = true) :
    FrameCursor.put seg { masks := m, cursor := some c } ch =
      { masks := m.set c.val (m[c] ||| (seg ch &&& 0x80#8)), cursor := some c } := by
  simp [FrameCursor.put, h]

/-- Punctuation before any digit-class character is dropped (R127). -/
theorem FrameCursor.put_punct_first (m : Vector Byte 4) {ch : Byte} (h : isPunct ch = true) :
    FrameCursor.put seg { masks := m, cursor := none } ch = { masks := m, cursor := none } := by
  simp [FrameCursor.put, h]

/-- Punctuation never moves the cursor (R127). -/
theorem FrameCursor.cursor_put_punct (f : FrameCursor) {ch : Byte} (h : isPunct ch = true) : (f.put seg ch).cursor = f.cursor := by
  obtain ⟨m, c⟩ := f
  cases c <;> simp [FrameCursor.put, h]

/-- A host program driven in two parts. -/
theorem drive_append {a b : List HostOp} {s t : State} (h : drive a s = .next t) : drive (a ++ b) s = drive b t := by
  induction a generalizing s with
  | nil => cases h; rfl
  | cons o a ih =>
    simp only [drive, List.cons_append] at h ⊢
    cases hd : driveOp o s with
    | next v => rw [hd] at h; exact ih h
    | fault r => cases r
    | refused r => rw [hd] at h; cases h

end Sys2Proof.Machine
end

