-- ==== Sys2Proof/Laws/State.lean ====
section
/-! SUPPORT. What each named update of the state leaves in each field: one lemma per field per update, true by rfl, so that no
later proof unfolds a record update. -/

namespace Sys2Proof.Machine.State

variable (s : State)

@[simp] theorem emit_dirClk (e : Event) : (s.emit e).dirClk = s.dirClk := rfl
@[simp] theorem emit_dirDio (e : Event) : (s.emit e).dirDio = s.dirDio := rfl
@[simp] theorem emit_brightness (e : Event) : (s.emit e).brightness = s.brightness := rfl
@[simp] theorem emit_frame (e : Event) : (s.emit e).frame = s.frame := rfl
@[simp] theorem emit_ackLast (e : Event) : (s.emit e).ackLast = s.ackLast := rfl
@[simp] theorem emit_nackSeen (e : Event) : (s.emit e).nackSeen = s.nackSeen := rfl
@[simp] theorem emit_errIllegal (e : Event) : (s.emit e).errIllegal = s.errIllegal := rfl
@[simp] theorem emit_errBusy (e : Event) : (s.emit e).errBusy = s.errBusy := rfl
@[simp] theorem emit_brtSet (e : Event) : (s.emit e).brtSet = s.brtSet := rfl
@[simp] theorem emit_uq (e : Event) : (s.emit e).uq = s.uq := rfl
@[simp] theorem emit_trace (e : Event) : (s.emit e).trace = s.trace ++ [e] := rfl
@[simp] theorem emit_faultRecord (e : Event) : (s.emit e).faultRecord = s.faultRecord := rfl
@[simp] theorem emit_prog (e : Event) : (s.emit e).prog = s.prog := rfl
@[simp] theorem emit_inputs (e : Event) : (s.emit e).inputs = s.inputs := rfl
@[simp] theorem emit_draws (e : Event) : (s.emit e).draws = s.draws := rfl
@[simp] theorem emit_drawCount (e : Event) : (s.emit e).drawCount = s.drawCount := rfl

@[simp] theorem setDir_clk_dirClk (d : Dir) : (s.setDir .clk d).dirClk = d := rfl
@[simp] theorem setDir_clk_dirDio (d : Dir) : (s.setDir .clk d).dirDio = s.dirDio := rfl
@[simp] theorem setDir_clk_brightness (d : Dir) : (s.setDir .clk d).brightness = s.brightness := rfl
@[simp] theorem setDir_clk_frame (d : Dir) : (s.setDir .clk d).frame = s.frame := rfl
@[simp] theorem setDir_clk_ackLast (d : Dir) : (s.setDir .clk d).ackLast = s.ackLast := rfl
@[simp] theorem setDir_clk_nackSeen (d : Dir) : (s.setDir .clk d).nackSeen = s.nackSeen := rfl
@[simp] theorem setDir_clk_errIllegal (d : Dir) : (s.setDir .clk d).errIllegal = s.errIllegal := rfl
@[simp] theorem setDir_clk_errBusy (d : Dir) : (s.setDir .clk d).errBusy = s.errBusy := rfl
@[simp] theorem setDir_clk_brtSet (d : Dir) : (s.setDir .clk d).brtSet = s.brtSet := rfl
@[simp] theorem setDir_clk_uq (d : Dir) : (s.setDir .clk d).uq = s.uq := rfl
@[simp] theorem setDir_clk_trace (d : Dir) : (s.setDir .clk d).trace = s.trace := rfl
@[simp] theorem setDir_clk_faultRecord (d : Dir) : (s.setDir .clk d).faultRecord = s.faultRecord := rfl
@[simp] theorem setDir_clk_prog (d : Dir) : (s.setDir .clk d).prog = s.prog := rfl
@[simp] theorem setDir_clk_inputs (d : Dir) : (s.setDir .clk d).inputs = s.inputs := rfl
@[simp] theorem setDir_clk_draws (d : Dir) : (s.setDir .clk d).draws = s.draws := rfl
@[simp] theorem setDir_clk_drawCount (d : Dir) : (s.setDir .clk d).drawCount = s.drawCount := rfl

@[simp] theorem setDir_dio_dirClk (d : Dir) : (s.setDir .dio d).dirClk = s.dirClk := rfl
@[simp] theorem setDir_dio_dirDio (d : Dir) : (s.setDir .dio d).dirDio = d := rfl
@[simp] theorem setDir_dio_brightness (d : Dir) : (s.setDir .dio d).brightness = s.brightness := rfl
@[simp] theorem setDir_dio_frame (d : Dir) : (s.setDir .dio d).frame = s.frame := rfl
@[simp] theorem setDir_dio_ackLast (d : Dir) : (s.setDir .dio d).ackLast = s.ackLast := rfl
@[simp] theorem setDir_dio_nackSeen (d : Dir) : (s.setDir .dio d).nackSeen = s.nackSeen := rfl
@[simp] theorem setDir_dio_errIllegal (d : Dir) : (s.setDir .dio d).errIllegal = s.errIllegal := rfl
@[simp] theorem setDir_dio_errBusy (d : Dir) : (s.setDir .dio d).errBusy = s.errBusy := rfl
@[simp] theorem setDir_dio_brtSet (d : Dir) : (s.setDir .dio d).brtSet = s.brtSet := rfl
@[simp] theorem setDir_dio_uq (d : Dir) : (s.setDir .dio d).uq = s.uq := rfl
@[simp] theorem setDir_dio_trace (d : Dir) : (s.setDir .dio d).trace = s.trace := rfl
@[simp] theorem setDir_dio_faultRecord (d : Dir) : (s.setDir .dio d).faultRecord = s.faultRecord := rfl
@[simp] theorem setDir_dio_prog (d : Dir) : (s.setDir .dio d).prog = s.prog := rfl
@[simp] theorem setDir_dio_inputs (d : Dir) : (s.setDir .dio d).inputs = s.inputs := rfl
@[simp] theorem setDir_dio_draws (d : Dir) : (s.setDir .dio d).draws = s.draws := rfl
@[simp] theorem setDir_dio_drawCount (d : Dir) : (s.setDir .dio d).drawCount = s.drawCount := rfl

@[simp] theorem driveLow_clk_dirClk : (s.driveLow .clk).dirClk = .OUT := rfl
@[simp] theorem driveLow_clk_dirDio : (s.driveLow .clk).dirDio = s.dirDio := rfl
@[simp] theorem driveLow_clk_brightness : (s.driveLow .clk).brightness = s.brightness := rfl
@[simp] theorem driveLow_clk_frame : (s.driveLow .clk).frame = s.frame := rfl
@[simp] theorem driveLow_clk_ackLast : (s.driveLow .clk).ackLast = s.ackLast := rfl
@[simp] theorem driveLow_clk_nackSeen : (s.driveLow .clk).nackSeen = s.nackSeen := rfl
@[simp] theorem driveLow_clk_errIllegal : (s.driveLow .clk).errIllegal = s.errIllegal := rfl
@[simp] theorem driveLow_clk_errBusy : (s.driveLow .clk).errBusy = s.errBusy := rfl
@[simp] theorem driveLow_clk_brtSet : (s.driveLow .clk).brtSet = s.brtSet := rfl
@[simp] theorem driveLow_clk_uq : (s.driveLow .clk).uq = s.uq := rfl
@[simp] theorem driveLow_clk_trace : (s.driveLow .clk).trace = s.trace ++ [.drive .clk] := rfl
@[simp] theorem driveLow_clk_faultRecord : (s.driveLow .clk).faultRecord = s.faultRecord := rfl
@[simp] theorem driveLow_clk_prog : (s.driveLow .clk).prog = s.prog := rfl
@[simp] theorem driveLow_clk_inputs : (s.driveLow .clk).inputs = s.inputs := rfl
@[simp] theorem driveLow_clk_draws : (s.driveLow .clk).draws = s.draws := rfl
@[simp] theorem driveLow_clk_drawCount : (s.driveLow .clk).drawCount = s.drawCount := rfl

@[simp] theorem driveLow_dio_dirClk : (s.driveLow .dio).dirClk = s.dirClk := rfl
@[simp] theorem driveLow_dio_dirDio : (s.driveLow .dio).dirDio = .OUT := rfl
@[simp] theorem driveLow_dio_brightness : (s.driveLow .dio).brightness = s.brightness := rfl
@[simp] theorem driveLow_dio_frame : (s.driveLow .dio).frame = s.frame := rfl
@[simp] theorem driveLow_dio_ackLast : (s.driveLow .dio).ackLast = s.ackLast := rfl
@[simp] theorem driveLow_dio_nackSeen : (s.driveLow .dio).nackSeen = s.nackSeen := rfl
@[simp] theorem driveLow_dio_errIllegal : (s.driveLow .dio).errIllegal = s.errIllegal := rfl
@[simp] theorem driveLow_dio_errBusy : (s.driveLow .dio).errBusy = s.errBusy := rfl
@[simp] theorem driveLow_dio_brtSet : (s.driveLow .dio).brtSet = s.brtSet := rfl
@[simp] theorem driveLow_dio_uq : (s.driveLow .dio).uq = s.uq := rfl
@[simp] theorem driveLow_dio_trace : (s.driveLow .dio).trace = s.trace ++ [.drive .dio] := rfl
@[simp] theorem driveLow_dio_faultRecord : (s.driveLow .dio).faultRecord = s.faultRecord := rfl
@[simp] theorem driveLow_dio_prog : (s.driveLow .dio).prog = s.prog := rfl
@[simp] theorem driveLow_dio_inputs : (s.driveLow .dio).inputs = s.inputs := rfl
@[simp] theorem driveLow_dio_draws : (s.driveLow .dio).draws = s.draws := rfl
@[simp] theorem driveLow_dio_drawCount : (s.driveLow .dio).drawCount = s.drawCount := rfl

@[simp] theorem release_clk_dirClk : (s.release .clk).dirClk = .IN := rfl
@[simp] theorem release_clk_dirDio : (s.release .clk).dirDio = s.dirDio := rfl
@[simp] theorem release_clk_brightness : (s.release .clk).brightness = s.brightness := rfl
@[simp] theorem release_clk_frame : (s.release .clk).frame = s.frame := rfl
@[simp] theorem release_clk_ackLast : (s.release .clk).ackLast = s.ackLast := rfl
@[simp] theorem release_clk_nackSeen : (s.release .clk).nackSeen = s.nackSeen := rfl
@[simp] theorem release_clk_errIllegal : (s.release .clk).errIllegal = s.errIllegal := rfl
@[simp] theorem release_clk_errBusy : (s.release .clk).errBusy = s.errBusy := rfl
@[simp] theorem release_clk_brtSet : (s.release .clk).brtSet = s.brtSet := rfl
@[simp] theorem release_clk_uq : (s.release .clk).uq = s.uq := rfl
@[simp] theorem release_clk_trace : (s.release .clk).trace = s.trace ++ [.release .clk] := rfl
@[simp] theorem release_clk_faultRecord : (s.release .clk).faultRecord = s.faultRecord := rfl
@[simp] theorem release_clk_prog : (s.release .clk).prog = s.prog := rfl
@[simp] theorem release_clk_inputs : (s.release .clk).inputs = s.inputs := rfl
@[simp] theorem release_clk_draws : (s.release .clk).draws = s.draws := rfl
@[simp] theorem release_clk_drawCount : (s.release .clk).drawCount = s.drawCount := rfl

@[simp] theorem release_dio_dirClk : (s.release .dio).dirClk = s.dirClk := rfl
@[simp] theorem release_dio_dirDio : (s.release .dio).dirDio = .IN := rfl
@[simp] theorem release_dio_brightness : (s.release .dio).brightness = s.brightness := rfl
@[simp] theorem release_dio_frame : (s.release .dio).frame = s.frame := rfl
@[simp] theorem release_dio_ackLast : (s.release .dio).ackLast = s.ackLast := rfl
@[simp] theorem release_dio_nackSeen : (s.release .dio).nackSeen = s.nackSeen := rfl
@[simp] theorem release_dio_errIllegal : (s.release .dio).errIllegal = s.errIllegal := rfl
@[simp] theorem release_dio_errBusy : (s.release .dio).errBusy = s.errBusy := rfl
@[simp] theorem release_dio_brtSet : (s.release .dio).brtSet = s.brtSet := rfl
@[simp] theorem release_dio_uq : (s.release .dio).uq = s.uq := rfl
@[simp] theorem release_dio_trace : (s.release .dio).trace = s.trace ++ [.release .dio] := rfl
@[simp] theorem release_dio_faultRecord : (s.release .dio).faultRecord = s.faultRecord := rfl
@[simp] theorem release_dio_prog : (s.release .dio).prog = s.prog := rfl
@[simp] theorem release_dio_inputs : (s.release .dio).inputs = s.inputs := rfl
@[simp] theorem release_dio_draws : (s.release .dio).draws = s.draws := rfl
@[simp] theorem release_dio_drawCount : (s.release .dio).drawCount = s.drawCount := rfl

@[simp] theorem hold_dirClk : (s.hold).dirClk = s.dirClk := rfl
@[simp] theorem hold_dirDio : (s.hold).dirDio = s.dirDio := rfl
@[simp] theorem hold_brightness : (s.hold).brightness = s.brightness := rfl
@[simp] theorem hold_frame : (s.hold).frame = s.frame := rfl
@[simp] theorem hold_ackLast : (s.hold).ackLast = s.ackLast := rfl
@[simp] theorem hold_nackSeen : (s.hold).nackSeen = s.nackSeen := rfl
@[simp] theorem hold_errIllegal : (s.hold).errIllegal = s.errIllegal := rfl
@[simp] theorem hold_errBusy : (s.hold).errBusy = s.errBusy := rfl
@[simp] theorem hold_brtSet : (s.hold).brtSet = s.brtSet := rfl
@[simp] theorem hold_uq : (s.hold).uq = s.uq := rfl
@[simp] theorem hold_trace : (s.hold).trace = s.trace ++ [.wait] := rfl
@[simp] theorem hold_faultRecord : (s.hold).faultRecord = s.faultRecord := rfl
@[simp] theorem hold_prog : (s.hold).prog = s.prog := rfl
@[simp] theorem hold_inputs : (s.hold).inputs = s.inputs := rfl
@[simp] theorem hold_draws : (s.hold).draws = s.draws := rfl
@[simp] theorem hold_drawCount : (s.hold).drawCount = s.drawCount := rfl

@[simp] theorem recordSample_dirClk (b : Bool) : (s.recordSample b).dirClk = s.dirClk := rfl
@[simp] theorem recordSample_dirDio (b : Bool) : (s.recordSample b).dirDio = s.dirDio := rfl
@[simp] theorem recordSample_brightness (b : Bool) : (s.recordSample b).brightness = s.brightness := rfl
@[simp] theorem recordSample_frame (b : Bool) : (s.recordSample b).frame = s.frame := rfl
@[simp] theorem recordSample_ackLast (b : Bool) : (s.recordSample b).ackLast = b := rfl
@[simp] theorem recordSample_nackSeen (b : Bool) : (s.recordSample b).nackSeen = (s.nackSeen || b) := rfl
@[simp] theorem recordSample_errIllegal (b : Bool) : (s.recordSample b).errIllegal = s.errIllegal := rfl
@[simp] theorem recordSample_errBusy (b : Bool) : (s.recordSample b).errBusy = s.errBusy := rfl
@[simp] theorem recordSample_brtSet (b : Bool) : (s.recordSample b).brtSet = s.brtSet := rfl
@[simp] theorem recordSample_uq (b : Bool) : (s.recordSample b).uq = s.uq := rfl
@[simp] theorem recordSample_trace (b : Bool) : (s.recordSample b).trace = s.trace := rfl
@[simp] theorem recordSample_faultRecord (b : Bool) : (s.recordSample b).faultRecord = s.faultRecord := rfl
@[simp] theorem recordSample_prog (b : Bool) : (s.recordSample b).prog = s.prog := rfl
@[simp] theorem recordSample_inputs (b : Bool) : (s.recordSample b).inputs = s.inputs := rfl
@[simp] theorem recordSample_draws (b : Bool) : (s.recordSample b).draws = s.draws := rfl
@[simp] theorem recordSample_drawCount (b : Bool) : (s.recordSample b).drawCount = s.drawCount := rfl

@[simp] theorem raiseFlag_illegal_dirClk : (s.raiseFlag .illegal).dirClk = s.dirClk := rfl
@[simp] theorem raiseFlag_illegal_dirDio : (s.raiseFlag .illegal).dirDio = s.dirDio := rfl
@[simp] theorem raiseFlag_illegal_brightness : (s.raiseFlag .illegal).brightness = s.brightness := rfl
@[simp] theorem raiseFlag_illegal_frame : (s.raiseFlag .illegal).frame = s.frame := rfl
@[simp] theorem raiseFlag_illegal_ackLast : (s.raiseFlag .illegal).ackLast = s.ackLast := rfl
@[simp] theorem raiseFlag_illegal_nackSeen : (s.raiseFlag .illegal).nackSeen = s.nackSeen := rfl
@[simp] theorem raiseFlag_illegal_errIllegal : (s.raiseFlag .illegal).errIllegal = true := rfl
@[simp] theorem raiseFlag_illegal_errBusy : (s.raiseFlag .illegal).errBusy = s.errBusy := rfl
@[simp] theorem raiseFlag_illegal_brtSet : (s.raiseFlag .illegal).brtSet = s.brtSet := rfl
@[simp] theorem raiseFlag_illegal_uq : (s.raiseFlag .illegal).uq = s.uq := rfl
@[simp] theorem raiseFlag_illegal_trace : (s.raiseFlag .illegal).trace = s.trace := rfl
@[simp] theorem raiseFlag_illegal_faultRecord : (s.raiseFlag .illegal).faultRecord = s.faultRecord := rfl
@[simp] theorem raiseFlag_illegal_prog : (s.raiseFlag .illegal).prog = s.prog := rfl
@[simp] theorem raiseFlag_illegal_inputs : (s.raiseFlag .illegal).inputs = s.inputs := rfl
@[simp] theorem raiseFlag_illegal_draws : (s.raiseFlag .illegal).draws = s.draws := rfl
@[simp] theorem raiseFlag_illegal_drawCount : (s.raiseFlag .illegal).drawCount = s.drawCount := rfl

@[simp] theorem raiseFlag_busy_dirClk : (s.raiseFlag .busy).dirClk = s.dirClk := rfl
@[simp] theorem raiseFlag_busy_dirDio : (s.raiseFlag .busy).dirDio = s.dirDio := rfl
@[simp] theorem raiseFlag_busy_brightness : (s.raiseFlag .busy).brightness = s.brightness := rfl
@[simp] theorem raiseFlag_busy_frame : (s.raiseFlag .busy).frame = s.frame := rfl
@[simp] theorem raiseFlag_busy_ackLast : (s.raiseFlag .busy).ackLast = s.ackLast := rfl
@[simp] theorem raiseFlag_busy_nackSeen : (s.raiseFlag .busy).nackSeen = s.nackSeen := rfl
@[simp] theorem raiseFlag_busy_errIllegal : (s.raiseFlag .busy).errIllegal = s.errIllegal := rfl
@[simp] theorem raiseFlag_busy_errBusy : (s.raiseFlag .busy).errBusy = true := rfl
@[simp] theorem raiseFlag_busy_brtSet : (s.raiseFlag .busy).brtSet = s.brtSet := rfl
@[simp] theorem raiseFlag_busy_uq : (s.raiseFlag .busy).uq = s.uq := rfl
@[simp] theorem raiseFlag_busy_trace : (s.raiseFlag .busy).trace = s.trace := rfl
@[simp] theorem raiseFlag_busy_faultRecord : (s.raiseFlag .busy).faultRecord = s.faultRecord := rfl
@[simp] theorem raiseFlag_busy_prog : (s.raiseFlag .busy).prog = s.prog := rfl
@[simp] theorem raiseFlag_busy_inputs : (s.raiseFlag .busy).inputs = s.inputs := rfl
@[simp] theorem raiseFlag_busy_draws : (s.raiseFlag .busy).draws = s.draws := rfl
@[simp] theorem raiseFlag_busy_drawCount : (s.raiseFlag .busy).drawCount = s.drawCount := rfl

@[simp] theorem recordFault_dirClk (e : FaultEntry) : (s.recordFault e).dirClk = s.dirClk := rfl
@[simp] theorem recordFault_dirDio (e : FaultEntry) : (s.recordFault e).dirDio = s.dirDio := rfl
@[simp] theorem recordFault_brightness (e : FaultEntry) : (s.recordFault e).brightness = s.brightness := rfl
@[simp] theorem recordFault_frame (e : FaultEntry) : (s.recordFault e).frame = s.frame := rfl
@[simp] theorem recordFault_ackLast (e : FaultEntry) : (s.recordFault e).ackLast = s.ackLast := rfl
@[simp] theorem recordFault_nackSeen (e : FaultEntry) : (s.recordFault e).nackSeen = s.nackSeen := rfl
@[simp] theorem recordFault_errIllegal (e : FaultEntry) : (s.recordFault e).errIllegal = s.errIllegal := rfl
@[simp] theorem recordFault_errBusy (e : FaultEntry) : (s.recordFault e).errBusy = s.errBusy := rfl
@[simp] theorem recordFault_brtSet (e : FaultEntry) : (s.recordFault e).brtSet = s.brtSet := rfl
@[simp] theorem recordFault_uq (e : FaultEntry) : (s.recordFault e).uq = s.uq := rfl
@[simp] theorem recordFault_trace (e : FaultEntry) : (s.recordFault e).trace = s.trace := rfl
@[simp] theorem recordFault_faultRecord (e : FaultEntry) : (s.recordFault e).faultRecord = s.faultRecord ++ [e] := rfl
@[simp] theorem recordFault_prog (e : FaultEntry) : (s.recordFault e).prog = s.prog := rfl
@[simp] theorem recordFault_inputs (e : FaultEntry) : (s.recordFault e).inputs = s.inputs := rfl
@[simp] theorem recordFault_draws (e : FaultEntry) : (s.recordFault e).draws = s.draws := rfl
@[simp] theorem recordFault_drawCount (e : FaultEntry) : (s.recordFault e).drawCount = s.drawCount := rfl

@[simp] theorem raiseCmdError_illegal_dirClk (w : CmdWord) : (s.raiseCmdError .illegal w).dirClk = s.dirClk := rfl
@[simp] theorem raiseCmdError_illegal_dirDio (w : CmdWord) : (s.raiseCmdError .illegal w).dirDio = s.dirDio := rfl
@[simp] theorem raiseCmdError_illegal_brightness (w : CmdWord) : (s.raiseCmdError .illegal w).brightness = s.brightness := rfl
@[simp] theorem raiseCmdError_illegal_frame (w : CmdWord) : (s.raiseCmdError .illegal w).frame = s.frame := rfl
@[simp] theorem raiseCmdError_illegal_ackLast (w : CmdWord) : (s.raiseCmdError .illegal w).ackLast = s.ackLast := rfl
@[simp] theorem raiseCmdError_illegal_nackSeen (w : CmdWord) : (s.raiseCmdError .illegal w).nackSeen = s.nackSeen := rfl
@[simp] theorem raiseCmdError_illegal_errIllegal (w : CmdWord) : (s.raiseCmdError .illegal w).errIllegal = true := rfl
@[simp] theorem raiseCmdError_illegal_errBusy (w : CmdWord) : (s.raiseCmdError .illegal w).errBusy = s.errBusy := rfl
@[simp] theorem raiseCmdError_illegal_brtSet (w : CmdWord) : (s.raiseCmdError .illegal w).brtSet = s.brtSet := rfl
@[simp] theorem raiseCmdError_illegal_uq (w : CmdWord) : (s.raiseCmdError .illegal w).uq = s.uq := rfl
@[simp] theorem raiseCmdError_illegal_trace (w : CmdWord) : (s.raiseCmdError .illegal w).trace = s.trace := rfl
@[simp] theorem raiseCmdError_illegal_faultRecord (w : CmdWord) : (s.raiseCmdError .illegal w).faultRecord = s.faultRecord ++ [{ cause := .illegal, word := w }] := rfl
@[simp] theorem raiseCmdError_illegal_prog (w : CmdWord) : (s.raiseCmdError .illegal w).prog = s.prog := rfl
@[simp] theorem raiseCmdError_illegal_inputs (w : CmdWord) : (s.raiseCmdError .illegal w).inputs = s.inputs := rfl
@[simp] theorem raiseCmdError_illegal_draws (w : CmdWord) : (s.raiseCmdError .illegal w).draws = s.draws := rfl
@[simp] theorem raiseCmdError_illegal_drawCount (w : CmdWord) : (s.raiseCmdError .illegal w).drawCount = s.drawCount := rfl

@[simp] theorem raiseCmdError_busy_dirClk (w : CmdWord) : (s.raiseCmdError .busy w).dirClk = s.dirClk := rfl
@[simp] theorem raiseCmdError_busy_dirDio (w : CmdWord) : (s.raiseCmdError .busy w).dirDio = s.dirDio := rfl
@[simp] theorem raiseCmdError_busy_brightness (w : CmdWord) : (s.raiseCmdError .busy w).brightness = s.brightness := rfl
@[simp] theorem raiseCmdError_busy_frame (w : CmdWord) : (s.raiseCmdError .busy w).frame = s.frame := rfl
@[simp] theorem raiseCmdError_busy_ackLast (w : CmdWord) : (s.raiseCmdError .busy w).ackLast = s.ackLast := rfl
@[simp] theorem raiseCmdError_busy_nackSeen (w : CmdWord) : (s.raiseCmdError .busy w).nackSeen = s.nackSeen := rfl
@[simp] theorem raiseCmdError_busy_errIllegal (w : CmdWord) : (s.raiseCmdError .busy w).errIllegal = s.errIllegal := rfl
@[simp] theorem raiseCmdError_busy_errBusy (w : CmdWord) : (s.raiseCmdError .busy w).errBusy = true := rfl
@[simp] theorem raiseCmdError_busy_brtSet (w : CmdWord) : (s.raiseCmdError .busy w).brtSet = s.brtSet := rfl
@[simp] theorem raiseCmdError_busy_uq (w : CmdWord) : (s.raiseCmdError .busy w).uq = s.uq := rfl
@[simp] theorem raiseCmdError_busy_trace (w : CmdWord) : (s.raiseCmdError .busy w).trace = s.trace := rfl
@[simp] theorem raiseCmdError_busy_faultRecord (w : CmdWord) : (s.raiseCmdError .busy w).faultRecord = s.faultRecord ++ [{ cause := .busy, word := w }] := rfl
@[simp] theorem raiseCmdError_busy_prog (w : CmdWord) : (s.raiseCmdError .busy w).prog = s.prog := rfl
@[simp] theorem raiseCmdError_busy_inputs (w : CmdWord) : (s.raiseCmdError .busy w).inputs = s.inputs := rfl
@[simp] theorem raiseCmdError_busy_draws (w : CmdWord) : (s.raiseCmdError .busy w).draws = s.draws := rfl
@[simp] theorem raiseCmdError_busy_drawCount (w : CmdWord) : (s.raiseCmdError .busy w).drawCount = s.drawCount := rfl

@[simp] theorem clearSticky_dirClk : (s.clearSticky).dirClk = s.dirClk := rfl
@[simp] theorem clearSticky_dirDio : (s.clearSticky).dirDio = s.dirDio := rfl
@[simp] theorem clearSticky_brightness : (s.clearSticky).brightness = s.brightness := rfl
@[simp] theorem clearSticky_frame : (s.clearSticky).frame = s.frame := rfl
@[simp] theorem clearSticky_ackLast : (s.clearSticky).ackLast = s.ackLast := rfl
@[simp] theorem clearSticky_nackSeen : (s.clearSticky).nackSeen = false := rfl
@[simp] theorem clearSticky_errIllegal : (s.clearSticky).errIllegal = false := rfl
@[simp] theorem clearSticky_errBusy : (s.clearSticky).errBusy = false := rfl
@[simp] theorem clearSticky_brtSet : (s.clearSticky).brtSet = s.brtSet := rfl
@[simp] theorem clearSticky_uq : (s.clearSticky).uq = s.uq := rfl
@[simp] theorem clearSticky_trace : (s.clearSticky).trace = s.trace := rfl
@[simp] theorem clearSticky_faultRecord : (s.clearSticky).faultRecord = s.faultRecord := rfl
@[simp] theorem clearSticky_prog : (s.clearSticky).prog = s.prog := rfl
@[simp] theorem clearSticky_inputs : (s.clearSticky).inputs = s.inputs := rfl
@[simp] theorem clearSticky_draws : (s.clearSticky).draws = s.draws := rfl
@[simp] theorem clearSticky_drawCount : (s.clearSticky).drawCount = s.drawCount := rfl

@[simp] theorem markBrtSet_dirClk : (s.markBrtSet).dirClk = s.dirClk := rfl
@[simp] theorem markBrtSet_dirDio : (s.markBrtSet).dirDio = s.dirDio := rfl
@[simp] theorem markBrtSet_brightness : (s.markBrtSet).brightness = s.brightness := rfl
@[simp] theorem markBrtSet_frame : (s.markBrtSet).frame = s.frame := rfl
@[simp] theorem markBrtSet_ackLast : (s.markBrtSet).ackLast = s.ackLast := rfl
@[simp] theorem markBrtSet_nackSeen : (s.markBrtSet).nackSeen = s.nackSeen := rfl
@[simp] theorem markBrtSet_errIllegal : (s.markBrtSet).errIllegal = s.errIllegal := rfl
@[simp] theorem markBrtSet_errBusy : (s.markBrtSet).errBusy = s.errBusy := rfl
@[simp] theorem markBrtSet_brtSet : (s.markBrtSet).brtSet = true := rfl
@[simp] theorem markBrtSet_uq : (s.markBrtSet).uq = s.uq := rfl
@[simp] theorem markBrtSet_trace : (s.markBrtSet).trace = s.trace := rfl
@[simp] theorem markBrtSet_faultRecord : (s.markBrtSet).faultRecord = s.faultRecord := rfl
@[simp] theorem markBrtSet_prog : (s.markBrtSet).prog = s.prog := rfl
@[simp] theorem markBrtSet_inputs : (s.markBrtSet).inputs = s.inputs := rfl
@[simp] theorem markBrtSet_draws : (s.markBrtSet).draws = s.draws := rfl
@[simp] theorem markBrtSet_drawCount : (s.markBrtSet).drawCount = s.drawCount := rfl

@[simp] theorem takeDraw_dirClk : (s.takeDraw).dirClk = s.dirClk := rfl
@[simp] theorem takeDraw_dirDio : (s.takeDraw).dirDio = s.dirDio := rfl
@[simp] theorem takeDraw_brightness : (s.takeDraw).brightness = s.brightness := rfl
@[simp] theorem takeDraw_frame : (s.takeDraw).frame = s.frame := rfl
@[simp] theorem takeDraw_ackLast : (s.takeDraw).ackLast = s.ackLast := rfl
@[simp] theorem takeDraw_nackSeen : (s.takeDraw).nackSeen = s.nackSeen := rfl
@[simp] theorem takeDraw_errIllegal : (s.takeDraw).errIllegal = s.errIllegal := rfl
@[simp] theorem takeDraw_errBusy : (s.takeDraw).errBusy = s.errBusy := rfl
@[simp] theorem takeDraw_brtSet : (s.takeDraw).brtSet = s.brtSet := rfl
@[simp] theorem takeDraw_uq : (s.takeDraw).uq = s.uq := rfl
@[simp] theorem takeDraw_trace : (s.takeDraw).trace = s.trace := rfl
@[simp] theorem takeDraw_faultRecord : (s.takeDraw).faultRecord = s.faultRecord := rfl
@[simp] theorem takeDraw_prog : (s.takeDraw).prog = s.prog := rfl
@[simp] theorem takeDraw_inputs : (s.takeDraw).inputs = s.inputs := rfl
@[simp] theorem takeDraw_draws : (s.takeDraw).draws = s.draws.tail := rfl
@[simp] theorem takeDraw_drawCount : (s.takeDraw).drawCount = s.drawCount + 1 := rfl

@[simp] theorem setBrightness_dirClk (v : BitVec 4) : (s.setBrightness v).dirClk = s.dirClk := rfl
@[simp] theorem setBrightness_dirDio (v : BitVec 4) : (s.setBrightness v).dirDio = s.dirDio := rfl
@[simp] theorem setBrightness_brightness (v : BitVec 4) : (s.setBrightness v).brightness = v := rfl
@[simp] theorem setBrightness_frame (v : BitVec 4) : (s.setBrightness v).frame = s.frame := rfl
@[simp] theorem setBrightness_ackLast (v : BitVec 4) : (s.setBrightness v).ackLast = s.ackLast := rfl
@[simp] theorem setBrightness_nackSeen (v : BitVec 4) : (s.setBrightness v).nackSeen = s.nackSeen := rfl
@[simp] theorem setBrightness_errIllegal (v : BitVec 4) : (s.setBrightness v).errIllegal = s.errIllegal := rfl
@[simp] theorem setBrightness_errBusy (v : BitVec 4) : (s.setBrightness v).errBusy = s.errBusy := rfl
@[simp] theorem setBrightness_brtSet (v : BitVec 4) : (s.setBrightness v).brtSet = s.brtSet := rfl
@[simp] theorem setBrightness_uq (v : BitVec 4) : (s.setBrightness v).uq = s.uq := rfl
@[simp] theorem setBrightness_trace (v : BitVec 4) : (s.setBrightness v).trace = s.trace := rfl
@[simp] theorem setBrightness_faultRecord (v : BitVec 4) : (s.setBrightness v).faultRecord = s.faultRecord := rfl
@[simp] theorem setBrightness_prog (v : BitVec 4) : (s.setBrightness v).prog = s.prog := rfl
@[simp] theorem setBrightness_inputs (v : BitVec 4) : (s.setBrightness v).inputs = s.inputs := rfl
@[simp] theorem setBrightness_draws (v : BitVec 4) : (s.setBrightness v).draws = s.draws := rfl
@[simp] theorem setBrightness_drawCount (v : BitVec 4) : (s.setBrightness v).drawCount = s.drawCount := rfl

@[simp] theorem setSlot_dirClk (i : BitVec 2) (m : Byte) : (s.setSlot i m).dirClk = s.dirClk := rfl
@[simp] theorem setSlot_dirDio (i : BitVec 2) (m : Byte) : (s.setSlot i m).dirDio = s.dirDio := rfl
@[simp] theorem setSlot_brightness (i : BitVec 2) (m : Byte) : (s.setSlot i m).brightness = s.brightness := rfl
@[simp] theorem setSlot_frame (i : BitVec 2) (m : Byte) : (s.setSlot i m).frame = s.frame.set i.toNat m := rfl
@[simp] theorem setSlot_ackLast (i : BitVec 2) (m : Byte) : (s.setSlot i m).ackLast = s.ackLast := rfl
@[simp] theorem setSlot_nackSeen (i : BitVec 2) (m : Byte) : (s.setSlot i m).nackSeen = s.nackSeen := rfl
@[simp] theorem setSlot_errIllegal (i : BitVec 2) (m : Byte) : (s.setSlot i m).errIllegal = s.errIllegal := rfl
@[simp] theorem setSlot_errBusy (i : BitVec 2) (m : Byte) : (s.setSlot i m).errBusy = s.errBusy := rfl
@[simp] theorem setSlot_brtSet (i : BitVec 2) (m : Byte) : (s.setSlot i m).brtSet = s.brtSet := rfl
@[simp] theorem setSlot_uq (i : BitVec 2) (m : Byte) : (s.setSlot i m).uq = s.uq := rfl
@[simp] theorem setSlot_trace (i : BitVec 2) (m : Byte) : (s.setSlot i m).trace = s.trace := rfl
@[simp] theorem setSlot_faultRecord (i : BitVec 2) (m : Byte) : (s.setSlot i m).faultRecord = s.faultRecord := rfl
@[simp] theorem setSlot_prog (i : BitVec 2) (m : Byte) : (s.setSlot i m).prog = s.prog := rfl
@[simp] theorem setSlot_inputs (i : BitVec 2) (m : Byte) : (s.setSlot i m).inputs = s.inputs := rfl
@[simp] theorem setSlot_draws (i : BitVec 2) (m : Byte) : (s.setSlot i m).draws = s.draws := rfl
@[simp] theorem setSlot_drawCount (i : BitVec 2) (m : Byte) : (s.setSlot i m).drawCount = s.drawCount := rfl

@[simp] theorem setUq_dirClk (q : List MicroOp) : (s.setUq q).dirClk = s.dirClk := rfl
@[simp] theorem setUq_dirDio (q : List MicroOp) : (s.setUq q).dirDio = s.dirDio := rfl
@[simp] theorem setUq_brightness (q : List MicroOp) : (s.setUq q).brightness = s.brightness := rfl
@[simp] theorem setUq_frame (q : List MicroOp) : (s.setUq q).frame = s.frame := rfl
@[simp] theorem setUq_ackLast (q : List MicroOp) : (s.setUq q).ackLast = s.ackLast := rfl
@[simp] theorem setUq_nackSeen (q : List MicroOp) : (s.setUq q).nackSeen = s.nackSeen := rfl
@[simp] theorem setUq_errIllegal (q : List MicroOp) : (s.setUq q).errIllegal = s.errIllegal := rfl
@[simp] theorem setUq_errBusy (q : List MicroOp) : (s.setUq q).errBusy = s.errBusy := rfl
@[simp] theorem setUq_brtSet (q : List MicroOp) : (s.setUq q).brtSet = s.brtSet := rfl
@[simp] theorem setUq_uq (q : List MicroOp) : (s.setUq q).uq = q := rfl
@[simp] theorem setUq_trace (q : List MicroOp) : (s.setUq q).trace = s.trace := rfl
@[simp] theorem setUq_faultRecord (q : List MicroOp) : (s.setUq q).faultRecord = s.faultRecord := rfl
@[simp] theorem setUq_prog (q : List MicroOp) : (s.setUq q).prog = s.prog := rfl
@[simp] theorem setUq_inputs (q : List MicroOp) : (s.setUq q).inputs = s.inputs := rfl
@[simp] theorem setUq_draws (q : List MicroOp) : (s.setUq q).draws = s.draws := rfl
@[simp] theorem setUq_drawCount (q : List MicroOp) : (s.setUq q).drawCount = s.drawCount := rfl

@[simp] theorem enqueue_dirClk (q : List MicroOp) : (s.enqueue q).dirClk = s.dirClk := rfl
@[simp] theorem enqueue_dirDio (q : List MicroOp) : (s.enqueue q).dirDio = s.dirDio := rfl
@[simp] theorem enqueue_brightness (q : List MicroOp) : (s.enqueue q).brightness = s.brightness := rfl
@[simp] theorem enqueue_frame (q : List MicroOp) : (s.enqueue q).frame = s.frame := rfl
@[simp] theorem enqueue_ackLast (q : List MicroOp) : (s.enqueue q).ackLast = s.ackLast := rfl
@[simp] theorem enqueue_nackSeen (q : List MicroOp) : (s.enqueue q).nackSeen = s.nackSeen := rfl
@[simp] theorem enqueue_errIllegal (q : List MicroOp) : (s.enqueue q).errIllegal = s.errIllegal := rfl
@[simp] theorem enqueue_errBusy (q : List MicroOp) : (s.enqueue q).errBusy = s.errBusy := rfl
@[simp] theorem enqueue_brtSet (q : List MicroOp) : (s.enqueue q).brtSet = s.brtSet := rfl
@[simp] theorem enqueue_uq (q : List MicroOp) : (s.enqueue q).uq = s.uq ++ q := rfl
@[simp] theorem enqueue_trace (q : List MicroOp) : (s.enqueue q).trace = s.trace := rfl
@[simp] theorem enqueue_faultRecord (q : List MicroOp) : (s.enqueue q).faultRecord = s.faultRecord := rfl
@[simp] theorem enqueue_prog (q : List MicroOp) : (s.enqueue q).prog = s.prog := rfl
@[simp] theorem enqueue_inputs (q : List MicroOp) : (s.enqueue q).inputs = s.inputs := rfl
@[simp] theorem enqueue_draws (q : List MicroOp) : (s.enqueue q).draws = s.draws := rfl
@[simp] theorem enqueue_drawCount (q : List MicroOp) : (s.enqueue q).drawCount = s.drawCount := rfl

@[simp] theorem setProg_dirClk (p : List TransportOp) : (s.setProg p).dirClk = s.dirClk := rfl
@[simp] theorem setProg_dirDio (p : List TransportOp) : (s.setProg p).dirDio = s.dirDio := rfl
@[simp] theorem setProg_brightness (p : List TransportOp) : (s.setProg p).brightness = s.brightness := rfl
@[simp] theorem setProg_frame (p : List TransportOp) : (s.setProg p).frame = s.frame := rfl
@[simp] theorem setProg_ackLast (p : List TransportOp) : (s.setProg p).ackLast = s.ackLast := rfl
@[simp] theorem setProg_nackSeen (p : List TransportOp) : (s.setProg p).nackSeen = s.nackSeen := rfl
@[simp] theorem setProg_errIllegal (p : List TransportOp) : (s.setProg p).errIllegal = s.errIllegal := rfl
@[simp] theorem setProg_errBusy (p : List TransportOp) : (s.setProg p).errBusy = s.errBusy := rfl
@[simp] theorem setProg_brtSet (p : List TransportOp) : (s.setProg p).brtSet = s.brtSet := rfl
@[simp] theorem setProg_uq (p : List TransportOp) : (s.setProg p).uq = s.uq := rfl
@[simp] theorem setProg_trace (p : List TransportOp) : (s.setProg p).trace = s.trace := rfl
@[simp] theorem setProg_faultRecord (p : List TransportOp) : (s.setProg p).faultRecord = s.faultRecord := rfl
@[simp] theorem setProg_prog (p : List TransportOp) : (s.setProg p).prog = p := rfl
@[simp] theorem setProg_inputs (p : List TransportOp) : (s.setProg p).inputs = s.inputs := rfl
@[simp] theorem setProg_draws (p : List TransportOp) : (s.setProg p).draws = s.draws := rfl
@[simp] theorem setProg_drawCount (p : List TransportOp) : (s.setProg p).drawCount = s.drawCount := rfl

@[simp] theorem setInputs_dirClk (is : List Input) : (s.setInputs is).dirClk = s.dirClk := rfl
@[simp] theorem setInputs_dirDio (is : List Input) : (s.setInputs is).dirDio = s.dirDio := rfl
@[simp] theorem setInputs_brightness (is : List Input) : (s.setInputs is).brightness = s.brightness := rfl
@[simp] theorem setInputs_frame (is : List Input) : (s.setInputs is).frame = s.frame := rfl
@[simp] theorem setInputs_ackLast (is : List Input) : (s.setInputs is).ackLast = s.ackLast := rfl
@[simp] theorem setInputs_nackSeen (is : List Input) : (s.setInputs is).nackSeen = s.nackSeen := rfl
@[simp] theorem setInputs_errIllegal (is : List Input) : (s.setInputs is).errIllegal = s.errIllegal := rfl
@[simp] theorem setInputs_errBusy (is : List Input) : (s.setInputs is).errBusy = s.errBusy := rfl
@[simp] theorem setInputs_brtSet (is : List Input) : (s.setInputs is).brtSet = s.brtSet := rfl
@[simp] theorem setInputs_uq (is : List Input) : (s.setInputs is).uq = s.uq := rfl
@[simp] theorem setInputs_trace (is : List Input) : (s.setInputs is).trace = s.trace := rfl
@[simp] theorem setInputs_faultRecord (is : List Input) : (s.setInputs is).faultRecord = s.faultRecord := rfl
@[simp] theorem setInputs_prog (is : List Input) : (s.setInputs is).prog = s.prog := rfl
@[simp] theorem setInputs_inputs (is : List Input) : (s.setInputs is).inputs = is := rfl
@[simp] theorem setInputs_draws (is : List Input) : (s.setInputs is).draws = s.draws := rfl
@[simp] theorem setInputs_drawCount (is : List Input) : (s.setInputs is).drawCount = s.drawCount := rfl

@[simp] theorem resetStep_dirClk : (s.resetStep).dirClk = .IN := rfl
@[simp] theorem resetStep_dirDio : (s.resetStep).dirDio = .IN := rfl
@[simp] theorem resetStep_brightness : (s.resetStep).brightness = Config.brightnessReset := rfl
@[simp] theorem resetStep_frame : (s.resetStep).frame = Vector.replicate 4 0x00#8 := rfl
@[simp] theorem resetStep_ackLast : (s.resetStep).ackLast = true := rfl
@[simp] theorem resetStep_nackSeen : (s.resetStep).nackSeen = false := rfl
@[simp] theorem resetStep_errIllegal : (s.resetStep).errIllegal = false := rfl
@[simp] theorem resetStep_errBusy : (s.resetStep).errBusy = false := rfl
@[simp] theorem resetStep_brtSet : (s.resetStep).brtSet = false := rfl
@[simp] theorem resetStep_uq : (s.resetStep).uq = [] := rfl
@[simp] theorem resetStep_trace : (s.resetStep).trace = s.trace ++ [.reset] := rfl
@[simp] theorem resetStep_faultRecord : (s.resetStep).faultRecord = s.faultRecord := rfl
@[simp] theorem resetStep_prog : (s.resetStep).prog = [] := rfl
@[simp] theorem resetStep_inputs : (s.resetStep).inputs = s.inputs := rfl
@[simp] theorem resetStep_draws : (s.resetStep).draws = s.draws := rfl
@[simp] theorem resetStep_drawCount : (s.resetStep).drawCount = s.drawCount := rfl

end Sys2Proof.Machine.State
end

