-- ==== Sys2Proof/Laws/Ops.lean ====
section
/-! SUPPORT. One lemma per shared operation that says once what it does: directions, draws, samples, STATUS, slots, errors. -/

namespace Sys2Proof.Machine

variable (s : State)

/-- A direction write changes that line's direction and no other. -/
theorem State.dir_setDir (l l' : Line) (d : Dir) : (s.setDir l d).dir l' = if l' = l then d else s.dir l' := by
  cases l <;> cases l' <;> rfl

/-- An event changes no direction. -/
@[simp] theorem State.dir_emit (l : Line) (e : Event) : (s.emit e).dir l = s.dir l := by cases l <;> rfl

/-- `driveLow`: the line is OUT, the other as before. -/
theorem State.dir_driveLow (l l' : Line) : (s.driveLow l).dir l' = if l' = l then .OUT else s.dir l' := by
  cases l <;> cases l' <;> rfl

/-- `release`: the line is IN, the other as before. -/
theorem State.dir_release (l l' : Line) : (s.release l).dir l' = if l' = l then .IN else s.dir l' := by
  cases l <;> cases l' <;> rfl

@[simp] theorem State.trace_driveLow (l : Line) : (s.driveLow l).trace = s.trace ++ [.drive l] := by cases l <;> rfl

@[simp] theorem State.trace_release (l : Line) : (s.release l).trace = s.trace ++ [.release l] := by cases l <;> rfl

/-- Taking a draw moves every later draw one place up. -/
@[simp] theorem State.drawAt_takeDraw (k : Nat) : s.takeDraw.drawAt k = s.drawAt (k + 1) := by
  simp only [State.drawAt, State.takeDraw, List.getElem?_tail]
  rw [show s.drawCount + 1 + k = s.drawCount + (k + 1) by omega]

/-- What a draw reads depends on nothing but the draws and their count. -/
theorem State.drawAt_congr {s t : State} (hd : t.draws = s.draws) (hc : t.drawCount = s.drawCount) (k : Nat) :
    t.drawAt k = s.drawAt k := by
  simp [State.drawAt, hd, hc]

/-- A SAMPLE while the block itself holds DIO low reads 0 and takes no draw (41_line_ops.md R92). -/
theorem State.sampleDio_out {s : State} (h : s.dirDio = .OUT) : s.sampleDio = (s.recordSample false).emit (.sample false) := by
  simp only [State.sampleDio, h]

/-- A SAMPLE of a released DIO reads the next draw (41_line_ops.md R92). -/
theorem State.sampleDio_in {s : State} (h : s.dirDio = .IN) :
    s.sampleDio = (s.takeDraw.recordSample (s.drawAt 0)).emit (.sample (s.drawAt 0)) := by
  simp only [State.sampleDio, h]

/-- What a SAMPLE leaves alone, whichever way it reads. -/
theorem State.sampleDio_frame :
    s.sampleDio.dirClk = s.dirClk ∧ s.sampleDio.dirDio = s.dirDio ∧ s.sampleDio.brightness = s.brightness ∧
      s.sampleDio.frame = s.frame ∧ s.sampleDio.errIllegal = s.errIllegal ∧ s.sampleDio.errBusy = s.errBusy ∧
      s.sampleDio.brtSet = s.brtSet ∧ s.sampleDio.uq = s.uq ∧ s.sampleDio.faultRecord = s.faultRecord ∧
      s.sampleDio.prog = s.prog ∧ s.sampleDio.inputs = s.inputs := by
  cases h : s.dirDio
  · simp [State.sampleDio_in h, h]
  · simp [State.sampleDio_out h, h]

/-- FRAME after a write: the slot written reads the mask, every other slot as before (43_commands.md R108). -/
theorem State.slot_setSlot (i j : BitVec 2) (m : Byte) : (s.setSlot i m).slot j = if j = i then m else s.slot j := by
  by_cases h : j = i
  · subst h; simp [State.slot]
  · have hn : ¬ i.toNat = j.toNat := fun e => h (BitVec.eq_of_toNat_eq e.symm)
    simp [State.slot, h, hn]

/-- BUSY reads the queue (10_state.md R31). -/
theorem State.busy_eq_true_iff {s : State} : s.busy = true ↔ s.uq ≠ [] := by
  simp [State.busy]

theorem State.busy_eq_false_iff {s : State} : s.busy = false ↔ s.uq = [] := by
  simp [State.busy]

/-- STATUS depends on nothing but the stored bits and the queue (10_state.md R30). -/
theorem State.status_congr {s t : State} (h1 : t.brtSet = s.brtSet) (h2 : t.errBusy = s.errBusy)
    (h3 : t.errIllegal = s.errIllegal) (h4 : t.nackSeen = s.nackSeen) (h5 : t.ackLast = s.ackLast)
    (h6 : t.busy = s.busy) : t.status = s.status := by
  simp only [State.status, h1, h2, h3, h4, h5, h6]

/-- `raise CmdError` changes a flag and the fault record, and nothing else (60_exceptions.md R134). -/
theorem State.raiseCmdError_frame (c : CmdError) (w : CmdWord) :
    { s.raiseCmdError c w with errIllegal := s.errIllegal, errBusy := s.errBusy, faultRecord := s.faultRecord } = s := by
  cases c <;> rfl

/-- The last write of the queue is the one that stays. -/
@[simp] theorem State.setUq_setUq (p q : List MicroOp) : (s.setUq p).setUq q = s.setUq q := rfl

/-- Writing back what the queue holds changes nothing. -/
theorem State.setUq_self {s : State} {q : List MicroOp} (h : s.uq = q) : s.setUq q = s := by
  cases s; cases h; rfl

/-- The bus idle in the terms of `dirs`. -/
theorem State.dirs_eq_released_iff : s.dirs = .released ↔ s.dirClk = .IN ∧ s.dirDio = .IN := by
  simp [State.dirs, Dirs.released]

end Sys2Proof.Machine
end

