-- ==== Sys2Proof/Laws/PerInstr.lean ====
section
/-! SUPPORT. The family TableMatch: every encoded instruction fits its row of spec/opcode_table.json, one lemma per constructor. -/

namespace Sys2Proof.Laws.TableMatch

/-- The match and the mask of an instruction's row of spec/opcode_table.json. -/
def row : Instr → Nat × Nat
  | .setbrt _ => (0x1000, 0xFF00)
  | .ldslot _ _ => (0x2000, 0xFC00)
  | .setseg _ _ => (0x3000, 0xF800)
  | .clrst => (0x4000, 0xFFFF)
  | .drvlo _ => (0x100, 0xFFE)
  | .rel _ => (0x200, 0xFFE)
  | .wait => (0x300, 0xFFF)
  | .sample => (0x401, 0xFFF)
  | .drvloIfAck => (0x501, 0xFFF)
  | .start => (0x800, 0xFFF)
  | .stop => (0x900, 0xFFF)
  | .wrb _ => (0xA00, 0xF00)

/-- The word of the instruction agrees with its row's match under its row's mask. -/
def Statement (i : Instr) : Prop := (encode i).toNat &&& (row i).2 = (row i).1

theorem setbrt (level : Byte) : Statement (.setbrt level) := by
  unfold Statement; revert level; decide

theorem ldslot (slot : BitVec 2) (mask : Byte) : Statement (.ldslot slot mask) := by
  unfold Statement; revert slot mask; decide

theorem setseg (len : BitVec 3) (pos : Byte) : Statement (.setseg len pos) := by
  unfold Statement; revert len pos; decide

theorem clrst : Statement .clrst := by
  unfold Statement; decide

theorem drvlo (l : Line) : Statement (.drvlo l) := by
  unfold Statement; cases l <;> decide

theorem rel (l : Line) : Statement (.rel l) := by
  unfold Statement; cases l <;> decide

theorem wait : Statement .wait := by
  unfold Statement; decide

theorem sample : Statement .sample := by
  unfold Statement; decide

theorem drvloIfAck : Statement .drvloIfAck := by
  unfold Statement; decide

theorem start : Statement .start := by
  unfold Statement; decide

theorem stop : Statement .stop := by
  unfold Statement; decide

theorem wrb (b : Byte) : Statement (.wrb b) := by
  unfold Statement; revert b; decide

end Sys2Proof.Laws.TableMatch
end

