-- ==== Sys2Proof/Laws/Step.lean ====
section
/-! SUPPORT. What the dispatch, the three kinds of step and a run of steps do, said once. -/

namespace Sys2Proof.Machine

variable (s : State)

@[simp] theorem exec_setbrt (level : Byte) :
    exec (.setbrt level) s = .next (s.setBrightness (maskBrightness level)).markBrtSet := rfl

@[simp] theorem exec_ldslot (slot : BitVec 2) (mask : Byte) : exec (.ldslot slot mask) s = .next (s.setSlot slot mask) := rfl

theorem exec_setseg {len : BitVec 3} (h : len.toNat ≤ maxLen) (pos : Byte) :
    exec (.setseg len pos) s = .next (s.setUq (expandProgram (updateProgram s.frame s.brightness len pos))) := by
  simp [exec, execSetseg, h]

theorem exec_setseg_illegal {len : BitVec 3} (h : ¬ len.toNat ≤ maxLen) (pos : Byte) :
    exec (.setseg len pos) s = .next (s.raiseCmdError .illegal (0x06#5 ++ len ++ pos)) := by
  simp [exec, execSetseg, h]

@[simp] theorem exec_clrst : exec .clrst s = .next s.clearSticky := rfl

@[simp] theorem exec_drvlo (l : Line) : exec (.drvlo l) s = .next (s.driveLow l) := rfl

@[simp] theorem exec_rel (l : Line) : exec (.rel l) s = .next (s.release l) := rfl

@[simp] theorem exec_wait : exec .wait s = .next s.hold := rfl

@[simp] theorem exec_sample : exec .sample s = .next s.sampleDio := rfl

theorem exec_drvloIfAck_acked {s : State} (h : s.ackLast = false) : exec .drvloIfAck s = .next (s.driveLow .dio) := by
  simp [exec, execDrvloIfAck, h]

theorem exec_drvloIfAck_nacked {s : State} (h : s.ackLast = true) : exec .drvloIfAck s = .next s := by
  simp [exec, execDrvloIfAck, h]

@[simp] theorem exec_start : exec .start s = .next (s.enqueue startOps) := rfl

@[simp] theorem exec_stop : exec .stop s = .next (s.enqueue stopOps) := rfl

@[simp] theorem exec_wrb (b : Byte) : exec (.wrb b) s = .next (s.enqueue (wrbOps b)) := rfl

/-- A transport operation places its expansion behind what is queued. -/
theorem exec_transportOp (t : TransportOp) : exec t.toInstr s = .next (s.enqueue t.expand) := by
  cases t <;> rfl

/-- A word presented while BUSY = 1 is dropped undecoded (43_commands.md R104). -/
theorem accept_busy {s : State} (w : CmdWord) (h : s.uq ≠ []) : accept w s = .next (s.raiseCmdError .busy w) := by
  simp [accept, State.busy_eq_true_iff.mpr h]

/-- A legal word presented while idle is executed (43_commands.md R104). -/
theorem accept_legal {s : State} {w : CmdWord} {i : Instr} (h : s.uq = []) (hd : decodeCmd w = .ok i) : accept w s = exec i s := by
  simp [accept, State.busy_eq_false_iff.mpr h, hd]

/-- An illegal word presented while idle is dropped (43_commands.md R111). -/
theorem accept_illegal {s : State} {w : CmdWord} {e : DecodeError} (h : s.uq = []) (hd : decodeCmd w = .error e) :
    accept w s = .next (s.raiseCmdError .illegal w) := by
  simp [accept, State.busy_eq_false_iff.mpr h, hd]

theorem sequence_prog {s : State} {t : TransportOp} {rest : List TransportOp} (h : s.prog = t :: rest) :
    sequence s = exec t.toInstr (s.setProg rest) := by
  simp [sequence, h]

/-- The sequencer step removes the head of `uq` and performs it (41_line_ops.md R85). -/
theorem sequence_uq {s : State} {u : MicroOp} {rest : List MicroOp} (hp : s.prog = []) (h : s.uq = u :: rest) :
    sequence s = exec u.toInstr (s.setUq rest) := by
  simp [sequence, hp, h]

theorem sequence_idle {s : State} (hp : s.prog = []) (h : s.uq = []) : sequence s = .next s := by
  simp [sequence, hp, h]

theorem step_quiet {s : State} (h : s.inputs = []) : step s = sequence s := by
  simp [step, stepOnce, h]

theorem step_present {s : State} {w : CmdWord} {rest : List Input} (h : s.inputs = .present w :: rest) :
    step s = accept w (s.setInputs rest) := by
  simp [step, stepOnce, h, takeInput]

theorem step_resetInput {s : State} {rest : List Input} (h : s.inputs = .reset :: rest) :
    step s = .next (s.setInputs rest).resetStep := by
  simp [step, stepOnce, h, takeInput]

theorem step_idleInput {s : State} {rest : List Input} (h : s.inputs = .idle :: rest) : step s = sequence (s.setInputs rest) := by
  simp [step, stepOnce, h, takeInput]

@[simp] theorem runSteps_zero : runSteps 0 s = .next s := rfl

theorem runSteps_succ {s t : State} (k : Nat) (h : step s = .next t) : runSteps (k + 1) s = runSteps k t := by
  simp [runSteps, h]

/-- A run of `j + k` steps is a run of `j` and then one of `k`. -/
theorem runSteps_add {s t : State} {j : Nat} (k : Nat) (h : runSteps j s = .next t) : runSteps (j + k) s = runSteps k t := by
  induction j generalizing s with
  | zero => cases h; simp
  | succ j ih =>
    rw [Nat.add_right_comm]
    simp only [runSteps] at h ⊢
    split at h
    · exact ih h
    · cases h
    · cases h

/-- The model's runs are the host interface's runs. -/
theorem runSteps_eq_core_run (k : Nat) : runSteps k s = Host.Core.run Sys2Proof.core k s := by
  induction k generalizing s with
  | zero => rfl
  | succ k ih =>
    cases h : step s with
    | next t =>
      have hc : Sys2Proof.core.step s = .next t := h
      simp only [runSteps, Host.Core.run, h, hc]
      exact ih t
    | fault r => exact nomatch r
    | refused r =>
      have hc : Sys2Proof.core.step s = .refused r := h
      simp only [runSteps, Host.Core.run, h, hc]
      rfl

end Sys2Proof.Machine
end

