-- ==== Sys2Proof/Laws/Run.lean ====
section
/-! SUPPORT. Running a queue: what performing a line micro-op does as a function, and a run of the sequencer over a queue as the
performing of its micro-ops in order. -/

namespace Sys2Proof.Machine

/-- The meaning of a line micro-op as a function on states. -/
def perform (u : MicroOp) (s : State) : State :=
  match u with
  | .drvlo l => s.driveLow l
  | .rel l => s.release l
  | .wait => s.hold
  | .sample => s.sampleDio
  | .drvloIfAck => if s.ackLast = false then s.driveLow .dio else s

/-- A line micro-op always answers, with what `perform` gives. -/
theorem exec_microOp (u : MicroOp) (s : State) : exec u.toInstr s = .next (perform u s) := by
  cases u <;> rfl

/-- The micro-ops of a list performed in order. -/
def performs (q : List MicroOp) (s : State) : State := q.foldl (fun s u => perform u s) s

@[simp] theorem performs_nil (s : State) : performs [] s = s := rfl

@[simp] theorem performs_cons (u : MicroOp) (q : List MicroOp) (s : State) : performs (u :: q) s = performs q (perform u s) := rfl

theorem performs_append (q r : List MicroOp) (s : State) : performs (q ++ r) s = performs r (performs q s) := by
  simp [performs]

/-- Performing a micro-op neither reads nor writes the queue. -/
theorem perform_setUq (u : MicroOp) (q : List MicroOp) (s : State) : perform u (s.setUq q) = (perform u s).setUq q := by
  cases u with
  | drvlo l => cases l <;> rfl
  | rel l => cases l <;> rfl
  | wait => rfl
  | sample => cases h : s.dirDio <;> (simp [perform, State.sampleDio, h]; rfl)
  | drvloIfAck =>
    cases h : s.ackLast
    · simp [perform, h]; rfl
    · simp [perform, h]

theorem performs_setUq (p q : List MicroOp) (s : State) : performs p (s.setUq q) = (performs p s).setUq q := by
  induction p generalizing s with
  | nil => rfl
  | cons u p ih => simp only [performs_cons, perform_setUq, ih]

/-- What performing a micro-op leaves alone. -/
theorem perform_frame (u : MicroOp) (s : State) :
    (perform u s).uq = s.uq ∧ (perform u s).prog = s.prog ∧ (perform u s).inputs = s.inputs ∧
      (perform u s).brightness = s.brightness ∧ (perform u s).frame = s.frame ∧
      (perform u s).errIllegal = s.errIllegal ∧ (perform u s).errBusy = s.errBusy ∧ (perform u s).brtSet = s.brtSet ∧
      (perform u s).faultRecord = s.faultRecord := by
  cases u with
  | drvlo l => cases l <;> exact ⟨rfl, rfl, rfl, rfl, rfl, rfl, rfl, rfl, rfl⟩
  | rel l => cases l <;> exact ⟨rfl, rfl, rfl, rfl, rfl, rfl, rfl, rfl, rfl⟩
  | wait => exact ⟨rfl, rfl, rfl, rfl, rfl, rfl, rfl, rfl, rfl⟩
  | sample => simp [perform, s.sampleDio_frame]
  | drvloIfAck => cases h : s.ackLast <;> simp [perform, h]

/-- One sequencer step with nothing from outside: the head is removed and performed. -/
theorem step_uq {s : State} {u : MicroOp} {rest : List MicroOp} (hp : s.prog = []) (hi : s.inputs = [])
    (h : s.uq = u :: rest) : step s = .next ((perform u s).setUq rest) := by
  rw [step_quiet hi, sequence_uq hp h, exec_microOp, perform_setUq]

/-- A run over the front part of a queue performs it, and leaves the rest queued. -/
theorem runSteps_queue {s : State} (q r : List MicroOp) (hp : s.prog = []) (hi : s.inputs = []) (h : s.uq = q ++ r) :
    runSteps q.length s = .next ((performs q s).setUq r) := by
  induction q generalizing s with
  | nil => simp only [List.length_nil, runSteps_zero, performs_nil]; rw [State.setUq_self (q := r) h]
  | cons u q ih =>
    have hf := perform_frame u s
    rw [List.length_cons, runSteps_succ _ (step_uq hp hi h), ih (by simp [hf, hp]) (by simp [hf, hi]) rfl, performs_setUq]
    rfl

end Sys2Proof.Machine
end

