-- ==== Sys2Proof/Tests/Slice0.lean ====
section
/-! SUPPORT. The model's own tests. Expected results are the worked vectors of spec/95_test_vectors.md (named V-…, W…, P… beside
each) and words written out from the layouts of 30_encoding.md. Part 2 shows, for every statement with hypotheses, that they can
be met. -/

namespace Sys2Proof.Tests

open Sys2Proof Sys2Proof.Machine

/-- A block as after reset but for a BRIGHTNESS fixed at 0xF, so that it is a closed term that can be compared. -/
def block : State := { State.reset with brightness := 0xF#4, trace := [] }

/-- What holds of the next state; false where there is none. -/
def holdsAfter (o : Host.Outcome State Fault Refusal) (p : State → Bool) : Bool :=
  match o with
  | .next t => p t
  | .fault _ => false
  | .refused _ => false

/-- The block after the host presents a word. -/
def presented (w : CmdWord) (s : State) : Host.Outcome State Fault Refusal := step { s with inputs := [.present w] }

/-! ## Part 1. Vectors of the spec -/

/-! ### Well-formedness and decoding -/

/-- 30_encoding.md R68, R72 (c): the one check of WellFormed refuses LEN 5 and takes LEN 4. -/
theorem test_wellFormed_refuses_len_five :
    Instr.wellFormed (.setseg 5#3 0x00#8) = false ∧ Instr.wellFormed (.setseg 4#3 0x00#8) = true := by decide

/-- R66, V-C1: OP 0001, reserved 0000, LEVEL 0000 0111. -/
theorem test_decode_setbrt : decodeTableWord 16 0b0001000000000111 = some (.setbrt 0x07#8) := by decide

/-- R67, V-C6: OP 0010, reserved 00, SLOT 11, MASK 1000 0000. -/
theorem test_decode_ldslot : decodeTableWord 16 0b0010001110000000 = some (.ldslot 3#2 0x80#8) := by decide

/-- R68, V-C8: OP 0011, reserved 0, LEN 001, POS 0000 0101. -/
theorem test_decode_setseg : decodeTableWord 16 0b0011000100000101 = some (.setseg 1#3 0x05#8) := by decide

/-- R69: OP 0100, the rest 0. -/
theorem test_decode_clrst : decodeTableWord 16 0b0100000000000000 = some .clrst := by decide

/-- R77: UOP 0001, ARG a line. -/
theorem test_decode_drvlo :
    decodeTableWord 16 0b000100000000 = some (.drvlo .clk) ∧ decodeTableWord 16 0b000100000001 = some (.drvlo .dio) := by decide

/-- R77: UOP 0010, ARG a line. -/
theorem test_decode_rel :
    decodeTableWord 16 0b001000000000 = some (.rel .clk) ∧ decodeTableWord 16 0b001000000001 = some (.rel .dio) := by decide

/-- R77: UOP 0011, ARG 0. -/
theorem test_decode_wait : decodeTableWord 16 0b001100000000 = some .wait := by decide

/-- R77: UOP 0100, ARG DIO. -/
theorem test_decode_sample : decodeTableWord 16 0b010000000001 = some .sample := by decide

/-- R77: UOP 0101, ARG DIO. -/
theorem test_decode_drvloIfAck : decodeTableWord 16 0b010100000001 = some .drvloIfAck := by decide

/-- R77: UOP 1000, ARG 0. -/
theorem test_decode_start : decodeTableWord 16 0b100000000000 = some .start := by decide

/-- R77: UOP 1001, ARG 0. -/
theorem test_decode_stop : decodeTableWord 16 0b100100000000 = some .stop := by decide

/-- R77: UOP 1010, ARG the byte 0x40. -/
theorem test_decode_wrb : decodeTableWord 16 0b101001000000 = some (.wrb 0x40#8) := by decide

/-- R72, V-E1 to V-E8: illegal host words. -/
theorem test_decode_refuses_illegal_words :
    [0x0000#16, 0x1100#16, 0x2400#16, 0x3500#16, 0x3700#16, 0x3C00#16, 0x4001#16, 0x5000#16, 0xF000#16, 0xFFFF#16].all
      (fun w => (decodeCmd w).toOption.isNone) = true := by decide

/-- R77: micro-words that no code or argument lists. -/
theorem test_decode_refuses_unlisted_micro_words :
    [0x000#12, 0x102#12, 0x301#12, 0x400#12, 0x500#12, 0x600#12, 0x700#12, 0x801#12, 0xB00#12, 0xF00#12].all
      (fun w => (decodeUop w).toOption.isNone) = true := by decide

/-! ### Host commands -/

/-- V-C2: 0x10FF stores 0xF, STATUS 0010 0010. -/
theorem test_setbrt_ff :
    holdsAfter (presented 0x10FF#16 block) (fun t => t.brightness == 0xF#4 && t.status == 0b00100010#8) = true := by decide

/-- V-C3: 0x1010 is masked to 0. -/
theorem test_setbrt_masks_to_zero :
    holdsAfter (presented 0x1010#16 block) (fun t => t.brightness == 0x0#4 && t.brtSet) = true := by decide

/-- V-C6: 0x2380 writes slot 3 and no other. -/
theorem test_ldslot_three :
    holdsAfter (presented 0x2380#16 block) (fun t => t.frame.toList == [0x00#8, 0x00#8, 0x00#8, 0x80#8]) = true := by decide

/-- V-C7: a slot is cleared again. -/
theorem test_ldslot_clears :
    holdsAfter (presented 0x2100#16 { block with frame := #v[0x01#8, 0x5B#8, 0x03#8, 0x04#8] })
      (fun t => t.frame.toList == [0x01#8, 0x00#8, 0x03#8, 0x04#8]) = true := by decide

/-- V-C8, V-C9, V-C10: `uq` has 256, 198 and 430 micro-ops, BUSY 1. -/
theorem test_setseg_sizes :
    holdsAfter (presented 0x3105#16 block) (fun t => t.uq.length == 256 && t.status == 0b00000011#8) = true ∧
      holdsAfter (presented 0x3002#16 block) (fun t => t.uq.length == 198) = true ∧
      holdsAfter (presented 0x34FF#16 block) (fun t => t.uq.length == 430) = true := by decide +kernel

/-- V-C8: the bytes of the three transactions of SETSEG 1, 5. -/
theorem test_setseg_program :
    updateProgram #v[0x06#8, 0x00#8, 0x00#8, 0x00#8] 0xF#4 1#3 0x05#8 =
      [.start, .wrb 0x40#8, .stop, .start, .wrb 0xC1#8, .wrb 0x06#8, .stop, .start, .wrb 0x8F#8, .stop] := by decide

/-- A block with STATUS 0001 1110: ERR_BUSY, ERR_ILLEGAL, NACK_SEEN, ACK_LAST (V-C12). -/
def flagged : State := { block with nackSeen := true, errIllegal := true, errBusy := true }

/-- V-C12. -/
theorem test_clrst_clears :
    flagged.status = 0b00011110#8 ∧ holdsAfter (presented 0x4000#16 flagged) (fun t => t.status == 0b00000010#8) = true := by decide

/-- V-C13: CLRST while busy is dropped. -/
theorem test_clrst_busy_is_dropped :
    holdsAfter (presented 0x4000#16 { block with uq := [.wait], ackLast := false, nackSeen := true, brtSet := true })
      (fun t => t.status == 0b00110101#8 && t.faultRecord == [{ cause := .busy, word := 0x4000#16 }]) = true := by decide

/-- V-E2, V-E4: an illegal word sets ERR_ILLEGAL and nothing else. -/
theorem test_illegal_word_is_dropped :
    holdsAfter (presented 0x1100#16 { block with brightness := 0x3#4 })
      (fun t => t.status == 0b00001010#8 && t.brightness == 0x3#4) = true ∧
    holdsAfter (presented 0x3500#16 block) (fun t => t.status == 0b00001010#8 && t.uq.isEmpty) = true := by decide

/-- V-E9: an illegal word while busy sets ERR_BUSY only. -/
theorem test_busy_comes_before_decoding :
    holdsAfter (presented 0x3500#16 { block with uq := [.wait] }) (fun t => t.errBusy && !t.errIllegal) = true := by decide

/-! ### Line micro-operations -/

/-- V-L1. -/
theorem test_drvlo_clk :
    holdsAfter (exec (.drvlo .clk) block) (fun t => t.dirClk == .OUT && t.dirDio == .IN && t.trace == [.drive .clk]) = true := by decide

/-- V-L2: an event also when the line is driven already. -/
theorem test_drvlo_driven :
    holdsAfter (exec (.drvlo .clk) { block with dirClk := .OUT }) (fun t => t.dirClk == .OUT && t.trace == [.drive .clk]) = true := by decide

/-- V-L3, V-L4: the level of the released line is the device's. -/
theorem test_rel_dio :
    holdsAfter (exec (.rel .dio) { block with dirDio := .OUT }) (fun t => t.dirDio == .IN && t.trace == [.release .dio]) = true ∧
      level .IN false = true ∧ level .IN true = false ∧ level .OUT false = false := by decide

/-- V-L5. -/
theorem test_rel_released :
    holdsAfter (exec (.rel .dio) block) (fun t => t.dirDio == .IN && t.trace == [.release .dio]) = true := by decide

/-- V-L6. -/
theorem test_wait : holdsAfter (exec .wait block) (fun t => t == { block with trace := [.wait] }) = true := by decide

/-- V-L7: STATUS 0000 0011 becomes 0000 0001 under draw 0. -/
theorem test_sample_acknowledged :
    holdsAfter (exec .sample { block with uq := [.wait], draws := [false] })
      (fun t => t.status == 0b00000001#8 && t.trace == [.sample false]) = true := by decide

/-- V-L8: STATUS 0000 0001 becomes 0000 0111 under draw 1. -/
theorem test_sample_not_acknowledged :
    holdsAfter (exec .sample { block with uq := [.wait], ackLast := false, draws := [true] })
      (fun t => t.status == 0b00000111#8 && t.trace == [.sample true]) = true := by decide

/-- V-L10. -/
theorem test_drvloIfAck_drives :
    holdsAfter (exec .drvloIfAck { block with ackLast := false }) (fun t => t.dirDio == .OUT && t.trace == [.drive .dio]) = true := by decide

/-- V-L11. -/
theorem test_drvloIfAck_does_not_drive : exec .drvloIfAck block = .next block := rfl

/-! ### Transport operations, the wire and reset -/

/-- V-T1, V-T2. -/
theorem test_start_and_stop :
    holdsAfter (exec .start block) (fun t => t.uq == [.drvlo .dio, .wait]) = true ∧
      holdsAfter (exec .stop block) (fun t => t.uq == [.drvlo .dio, .wait, .rel .clk, .wait, .rel .dio, .wait]) = true := by decide

/-- V-T2: the levels of STOP after an acknowledged byte. -/
theorem test_stop_levels :
    levelTrace { clk := .OUT, dio := .OUT }
      ([.drive .dio, .wait, .release .clk, .wait, .release .dio, .wait].map fun e => (e, { clk := false, dio := false })) =
      [⟨false, false⟩, ⟨false, false⟩, ⟨true, false⟩, ⟨true, false⟩, ⟨true, true⟩, ⟨true, true⟩] := by decide

/-- V-T3: micro-ops 37 to 58 of WRB 0x40, bits 6 and 7 and the ACK tail. -/
theorem test_wrb_40 :
    (wrbOps 0x40#8).length = 58 ∧ (wrbOps 0x40#8).count .wait = 28 ∧
      (wrbOps 0x40#8).drop 36 =
        [.drvlo .clk, .wait, .rel .dio, .wait, .rel .clk, .wait, .drvlo .clk, .wait, .drvlo .dio, .wait, .rel .clk, .wait,
          .drvlo .clk, .rel .dio, .wait, .rel .clk, .wait, .sample, .drvloIfAck, .wait, .drvlo .clk, .wait] := by decide

/-- V-T6: the DIO micro-ops of 0xC1, b[0] first. -/
theorem test_wrb_c1 :
    (List.range 8).map (fun i => (wrbOps 0xC1#8)[6 * i + 2]?) =
      [some (.rel .dio), some (.drvlo .dio), some (.drvlo .dio), some (.drvlo .dio), some (.drvlo .dio), some (.drvlo .dio),
        some (.rel .dio), some (.rel .dio)] := by decide

/-- V-T4, V-T5: 58 events when acknowledged, 57 when not. -/
theorem test_byte_events : (byteEvents 0x40#8 false).length = 58 ∧ (byteEvents 0x40#8 true).length = 57 := by decide

/-- A reset after the SAMPLE of an acknowledged byte: the device releases DIO and its answer is used up (notes/assumptions/20.md). -/
theorem test_device_at_reset :
    ({ clkLow := false, edges := 9, pulling := true, acks := [true, false] } : Device).follow (.sample false) =
      { clkLow := false, edges := 9, pulling := true, acks := [false] } ∧
    ({ clkLow := false, edges := 9, pulling := true, acks := [false] } : Device).follow .reset =
      { clkLow := false, edges := 0, pulling := false, acks := [false] } := by decide

/-- Both lines rise at once, and a start comes in an open transaction (notes/assumptions/14.md). -/
theorem test_recorder_at_reset :
    let opened : Recorder := { seen := ⟨false, false⟩, bits := some [], bytes := [0x40#8], closed := [] }
    opened.see ⟨true, true⟩ = { opened with seen := ⟨true, true⟩, bits := some [true] } ∧
      (opened.see ⟨true, true⟩).see ⟨true, false⟩ = { opened with seen := ⟨true, false⟩, bits := some [], bytes := [] } := by decide

/-- V-T4: the recorder reads 0x40 from the levels of one transaction. -/
theorem test_recorder_reads_preamble :
    recover (compliantLevels (transactionEvents (fun _ => false) [0x40#8])) = [[0x40#8]] := by decide +kernel

/-- V-R2: a reset during an update. -/
theorem test_reset_during_update :
    holdsAfter (step { block with inputs := [.reset], dirClk := .OUT, dirDio := .OUT, uq := [.wait], trace := [.drive .clk, .wait] })
      (fun t => t.status == 0b00000010#8 && t.dirClk == .IN && t.dirDio == .IN && t.uq.isEmpty &&
        t.trace == [.drive .clk, .wait, .reset]) = true := by decide

/-- V-R1: STATUS after reset. -/
theorem test_reset_status : State.reset.status = 0b00000010#8 ∧ State.reset.frame.toList = List.replicate 4 0x00#8 := by decide

/-- The placed word runs at the very next step after reset. -/
theorem test_placed_word_runs :
    holdsAfter (step (State.reset.withFetchWord 16 0x10FF)) (fun t => t.brightness == 0xF#4) = true ∧
      holdsAfter (step (State.reset.withFetchWord 16 0x101)) (fun t => t.dirDio == .OUT) = true ∧
      holdsAfter (step (State.reset.withFetchWord 16 0x800)) (fun t => t.uq == [.drvlo .dio, .wait]) = true := by decide

/-! ### The host's side -/

/-- W4, V-F1: "1.2". -/
theorem test_frame_folds_point :
    buildFrame segTableDefault [0x31#8, 0x2E#8, 0x32#8] = #v[0x86#8, 0x5B#8, 0x00#8, 0x00#8] := by decide

/-- V-F3, V-F4: "12345." and ".1". -/
theorem test_frame_truncates :
    buildFrame segTableDefault [0x31#8, 0x32#8, 0x33#8, 0x34#8, 0x35#8, 0x2E#8] = #v[0x06#8, 0x5B#8, 0x4F#8, 0xE6#8] ∧
      buildFrame segTableDefault [0x2E#8, 0x31#8] = #v[0x06#8, 0x00#8, 0x00#8, 0x00#8] := by decide

/-- R127, R128: a point folds into slot 1 after "12", and into slot 3 after a fifth digit was dropped. -/
theorem test_frame_folds_later_slots :
    buildFrame segTableDefault [0x31#8, 0x32#8, 0x2E#8, 0x33#8] = #v[0x06#8, 0xDB#8, 0x4F#8, 0x00#8] ∧
      buildFrame segTableDefault [0x38#8, 0x38#8, 0x38#8, 0x38#8, 0x31#8, 0x3B#8] = #v[0x7F#8, 0x7F#8, 0x7F#8, 0xFF#8] := by decide

/-- V-F6, V-F9: "12:34" and "B c". -/
theorem test_frame_colon_and_unmapped :
    buildFrame segTableDefault [0x31#8, 0x32#8, 0x3A#8, 0x33#8, 0x34#8] = #v[0x06#8, 0xDB#8, 0x4F#8, 0x66#8] ∧
      buildFrame segTableDefault [0x42#8, 0x20#8, 0x63#8] = #v[0x00#8, 0x00#8, 0x00#8, 0x00#8] := by decide

/-- R123: the default table meets what the source says of SEG_TABLE. -/
theorem test_default_table_is_admissible : SegTableAdmissible segTableDefault := by
  unfold SegTableAdmissible; decide

/-- R82: the text of commands. -/
theorem test_assemble_commands :
    assembleText segTableDefault "SETBRT 0xFF".toList = some [.word 0x10FF#16] ∧
      assembleText segTableDefault "LDSLOT 3, 0x80".toList = some [.word 0x2380#16] ∧
      assembleText segTableDefault "SETSEG  1, 5 ; P2".toList = some [.word 0x3105#16] ∧
      assembleText segTableDefault ".word 0x3500".toList = some [.word 0x3500#16] := by decide

/-- R79, R80: out of range, and micro-op syntax, are refused. -/
theorem test_assemble_refuses :
    assembleText segTableDefault "SETBRT 256".toList = none ∧ assembleText segTableDefault "SETSEG 5, 0".toList = none ∧
      assembleText segTableDefault "WAIT".toList = none ∧ assembleText segTableDefault "WRB 64".toList = none := by decide

/-- V-T3, V-T6: how the spec's lists write a byte write. -/
theorem test_listing_of_wrb :
    (TransportOp.wrb 0x40#8).listing = "WRB 0x40" ∧ (TransportOp.wrb 0x8F#8).listing = "WRB 0x8F" := by decide

/-- P4: the words of SHOWTEXT "1.2". -/
theorem test_showText :
    showText segTableDefault [0x31#8, 0x2E#8, 0x32#8] =
      some [.waitIdle, .word 0x2086#16, .word 0x215B#16, .word 0x2200#16, .word 0x2300#16, .word 0x3400#16, .waitIdle] := by decide

/-! ## Part 2. The hypotheses of the statements can be met

Each theorem names the statement it is for. A run of a whole update is shown to exist through Laws/Run.lean, not by running it. -/

/-- A reset in the middle of an update (ResetStepSetsEveryPieceOfState, ResetStepKeepsTheRecordAndTheOutside). -/
theorem witness_reset_step : ({ block with uq := [.wait], inputs := [.reset] } : State).inputs = .reset :: [] := by decide

/-- DecodeOfEncodeIsTheInstruction and PlacedInstructionIsRunNext at the boundary length. -/
theorem witness_wellFormed : Instr.wellFormed (.setseg 4#3 0xFF#8) = true ∧ Instr.wellFormed (.wrb 0xFF#8) = true := by decide

/-- DecodedWordIsItsInstructionsWord, one word of each encoding. -/
theorem witness_decoded_word :
    decode (.cmd16 0x3400#16) = .ok (.setseg 4#3 0x00#8) ∧ decode (.uop12 0xAFF#12) = .ok (.wrb 0xFF#8) := by decide

/-- IllegalWordsAreExactlyTheListed: words at the edges of each clause, on both sides. -/
theorem witness_illegal_words :
    (decodeCmd 0x0FFF#16).toOption.isNone = true ∧ (decodeCmd 0x5000#16).toOption.isNone = true ∧
      (decodeCmd 0x1F00#16).toOption.isNone = true ∧ (decodeCmd 0x2C00#16).toOption.isNone = true ∧
      (decodeCmd 0x3800#16).toOption.isNone = true ∧ (decodeCmd 0x3500#16).toOption.isNone = true ∧
      (decodeCmd 0x4001#16).toOption.isNone = true ∧ (decodeCmd 0x10FF#16).toOption.isSome = true ∧
      (decodeCmd 0x23FF#16).toOption.isSome = true ∧ (decodeCmd 0x34FF#16).toOption.isSome = true := by decide

/-- A block with two micro-ops queued. -/
def working : State := { block with uq := [.drvlo .dio, .wait] }

/-- SequencerStepRunsTheHead, its two clauses; SequencerStepAdvancesByOneAndEmitsOneEvent. -/
theorem witness_sequencer_step :
    (working.prog = [] ∧ working.uq = .drvlo .dio :: [.wait] ∧ working.inputs = []) ∧
      (({ working with inputs := [.idle] } : State).prog = [] ∧ ({ working with inputs := [.idle] } : State).inputs = .idle :: []) := by
  decide

/-- SequencerStepAdvancesByOneAndEmitsOneEvent, a head that drives nothing and one that drives. -/
theorem witness_one_event :
    (({ block with uq := [.drvloIfAck] } : State).uq = [.drvloIfAck] ∧ ({ block with uq := [.drvloIfAck] } : State).ackLast = true) ∧
      ({ block with uq := [.drvloIfAck], ackLast := false } : State).ackLast = false := by decide

/-- AcceptStepRunsTheDecodedCommand at the boundary length. -/
theorem witness_accept_step :
    ({ block with inputs := [.present 0x34FF#16] } : State).inputs = .present 0x34FF#16 :: [] ∧ block.uq = [] ∧
      decodeCmd 0x34FF#16 = .ok (.setseg 4#3 0xFF#8) := by decide

/-- IdleStepChangesNothing. -/
theorem witness_idle_step : State.reset.uq = [] ∧ State.reset.prog = [] ∧ State.reset.inputs = [] := by decide

/-- WordPresentedWhileBusyIsDropped. -/
theorem witness_busy_word :
    ({ working with inputs := [.present 0x10FF#16] } : State).inputs = .present 0x10FF#16 :: [] ∧ working.uq ≠ [] := by decide

/-- IllegalWordPresentedIdleIsDropped. -/
theorem witness_illegal_word :
    ({ block with inputs := [.present 0x3500#16] } : State).inputs = .present 0x3500#16 :: [] ∧ block.uq = [] ∧
      decodeCmd 0x3500#16 = .error (.length 5#3) := by decide

/-- AcceptSetsAtMostOneErrorFlag, a word that sets each flag. -/
theorem witness_error_flags :
    working.errBusy = false ∧ holdsAfter (accept 0x10FF#16 working) (fun t => t.errBusy) = true ∧
      block.errIllegal = false ∧ holdsAfter (accept 0x0000#16 block) (fun t => t.errIllegal) = true := by decide

/-- OnlySetsegMakesTheBlockBusy, a word that does and one that does not. -/
theorem witness_makes_busy :
    block.uq = [] ∧ holdsAfter (accept 0x3000#16 block) (fun t => t.busy) = true ∧
      holdsAfter (accept 0x4000#16 block) (fun t => !t.busy) = true := by decide

/-- SetsegLoadsThreeTransactions and SetsegOfIllegalLengthIsDropped, where their ranges meet and end. -/
theorem witness_setseg_lengths :
    (0#3).toNat ≤ 4 ∧ (4#3).toNat ≤ 4 ∧ 4 < (5#3).toNat ∧ 4 < (7#3).toNat := by decide

/-- LdslotWritesOneSlot, another slot than the one written. -/
theorem witness_other_slot : (3#2) ≠ (0#2) := by decide

/-- DrvloDrivesTheLineLow and RelReleasesTheLine, the other line and a line that is so already. -/
theorem witness_line_already :
    Line.dio ≠ Line.clk ∧ ({ block with dirClk := .OUT } : State).dir .clk = .OUT ∧ block.dir .dio = .IN ∧ Instr.wait ≠ .rel .clk ∧
      holdsAfter (exec .wait { block with dirClk := .OUT }) (fun t => t.dir .clk == .OUT) = true := by decide

/-- SampleRecordsTheLevelOfDio and DrvloIfAckDrivesOnlyIfAcked, both clauses of each. -/
theorem witness_sample_and_ack :
    block.dirDio = .IN ∧ ({ block with dirDio := .OUT } : State).dirDio = .OUT ∧
      block.ackLast = true ∧ ({ block with ackLast := false } : State).ackLast = false := by decide

/-- A quiet block: StartRunFromIdleDrivesDioLow, DisplayUpdateRunsToItsEnd, ShowDisplaysFourMasks. -/
theorem witness_quiet : Quiet block ∧ (0#3).toNat ≤ 4 ∧ (4#3).toNat ≤ 4 := by
  unfold Quiet BusReleased; decide

/-- StopRunReleasesBothLines and WrbRunSendsTheByteAndSamplesTheAck. -/
theorem witness_clock_low :
    ({ block with dirClk := .OUT } : State).uq = [] ∧ ({ block with dirClk := .OUT } : State).prog = [] ∧
      ({ block with dirClk := .OUT } : State).inputs = [] ∧ ({ block with dirClk := .OUT } : State).dirClk = .OUT := by decide

/-- A queue with nothing from outside runs to its end. -/
theorem run_exists {s : State} {k : Nat} (hp : s.prog = []) (hi : s.inputs = []) (hk : k = s.uq.length) :
    ∃ t, runSteps k s = .next t := by
  subst hk
  exact ⟨_, runSteps_queue s.uq [] hp hi (List.append_nil _).symm⟩

/-- RecorderRecoversTheUpdatesBytes and DisplayUpdateHasItsSize: the update of length 0 from a quiet block, accepted and run. -/
theorem witness_update_run :
    (0#3).toNat ≤ 4 ∧ Quiet block ∧ ∃ t u, exec (.setseg 0#3 0x00#8) block = .next t ∧
      runSteps (198 + 58 * (0#3).toNat) t = .next u := by
  refine ⟨by decide, witness_quiet.1, block.setUq (expandProgram (updateProgram block.frame block.brightness 0#3 0x00#8)), ?_⟩
  obtain ⟨u, h⟩ := run_exists (s := block.setUq (expandProgram (updateProgram block.frame block.brightness 0#3 0x00#8)))
    (k := 198 + 58 * (0#3).toNat) rfl rfl (by decide +kernel)
  exact ⟨u, rfl, h⟩

/-- The same at the boundary length 4. -/
theorem witness_update_run_four :
    (4#3).toNat ≤ 4 ∧ Quiet block ∧ ∃ t u, exec (.setseg 4#3 0xFF#8) block = .next t ∧
      runSteps (198 + 58 * (4#3).toNat) t = .next u := by
  refine ⟨by decide, witness_quiet.1, block.setUq (expandProgram (updateProgram block.frame block.brightness 4#3 0xFF#8)), ?_⟩
  obtain ⟨u, h⟩ := run_exists (s := block.setUq (expandProgram (updateProgram block.frame block.brightness 4#3 0xFF#8)))
    (k := 198 + 58 * (4#3).toNat) rfl rfl (by decide +kernel)
  exact ⟨u, rfl, h⟩

/-- A block whose slots past the first differ from `block`'s, and whose flags differ too. -/
def otherBlock : State := { block with frame := #v[0x00#8, 0x01#8, 0x02#8, 0x03#8], nackSeen := true, trace := [.wait] }

/-- SameUpdateSameQueueSameEvents: positions 1 and 5, states that agree on slot 0 and the draws only. -/
theorem witness_same_update :
    (1#3).toNat ≤ 4 ∧ (0x01#8).toNat % 4 = (0x05#8).toNat % 4 ∧ block.brightness = otherBlock.brightness ∧
      (∀ i : BitVec 2, i.toNat < (1#3).toNat → block.slot i = otherBlock.slot i) ∧ Quiet block ∧ Quiet otherBlock ∧
      (∀ k, k < (1#3).toNat + 3 → block.drawAt k = otherBlock.drawAt k) := by
  unfold Quiet BusReleased
  exact ⟨by decide, by decide, by decide, by decide, by decide, by decide, fun _ _ => rfl⟩

/-- A busy block to which a word is presented between its two sequencer steps. -/
def interrupted : State := { working with inputs := [.idle, .present 0x10FF#16, .idle] }

/-- WordsPresentedMeanwhileDoNotDisturbTheUpdate. -/
theorem witness_interrupted :
    interrupted.prog = [] ∧ (∀ i ∈ interrupted.inputs, i ≠ .reset) ∧ interrupted.inputs.count .idle = interrupted.uq.length ∧
      (∀ i, interrupted.inputs.getLast? = some i → i = .idle) := by
  refine ⟨by decide, by decide, by decide, ?_⟩
  intro i h
  exact (Option.some.inj h).symm

/-- A block in the middle of an update: its last SAMPLE and the STOP are still queued. -/
def midway : State := { block with uq := [.sample, .drvloIfAck, .wait, .drvlo .clk, .wait] ++ stopOps }

/-- EveryStepKeepsTheInvariant and LinesAreReleasedWheneverNotBusy, its clause of a SAMPLE. -/
theorem witness_invariant_midway :
    Inv midway ∧ midway.uq.head? = some .sample ∧ holdsAfter (step midway) (fun t => t.uq.length == 10) = true := by
  refine ⟨?_, by decide, ?_⟩
  · simp [Inv, midway, block, State.reset, QueueOk, stopOps]
  · decide

/-- LinesAreReleasedWheneverNotBusy, its clause of an idle block, reached by running the queue. -/
theorem witness_invariant_run : Inv midway ∧ ∃ t, runSteps midway.uq.length midway = .next t ∧ t.busy = false := by
  refine ⟨witness_invariant_midway.1, _, runSteps_queue (s := midway) midway.uq [] rfl rfl (List.append_nil _).symm, ?_⟩
  rfl

/-- EveryStepKeepsTheQueueOfOneUpdate: what remains of an update of length 4 after nothing and at its end. -/
theorem witness_queue_of_update :
    QueueFromUpdate { block with uq := expandProgram (updateProgram block.frame 0xF#4 4#3 0x00#8) } ∧
      QueueFromUpdate { block with uq := [.wait] } := by
  refine ⟨⟨rfl, block.frame, 0xF#4, 4#3, 0x00#8, by decide, List.suffix_refl _⟩,
    ⟨rfl, block.frame, 0xF#4, 0#3, 0x00#8, by decide, ?_⟩⟩
  exact ⟨(expandProgram (updateProgram block.frame 0xF#4 0#3 0x00#8)).dropLast, by rfl⟩

/-- A step from each of them answers. -/
theorem witness_queue_step :
    holdsAfter (step { block with uq := [.wait] }) (fun t => t.uq.isEmpty) = true := by decide

/-- AcknowledgesNeverChangeTheSequence: two blocks that an acknowledge has made differ, and a run of one. -/
theorem witness_but_acks :
    SameButAcks midway { midway with ackLast := false, nackSeen := true, dirDio := .OUT, draws := [true] } ∧
      ∃ t, runSteps 11 midway = .next t := by
  refine ⟨⟨rfl, ⟨rfl, rfl⟩, ⟨rfl, rfl⟩, rfl, ⟨rfl, rfl⟩, rfl, rfl⟩, run_exists rfl rfl rfl⟩

/-- OnlyLineOpsChangeDirections: each instruction it names changes its direction somewhere. -/
theorem witness_directions :
    holdsAfter (exec (.drvlo .clk) block) (fun t => t.dirClk != block.dirClk) = true ∧
      holdsAfter (exec (.rel .clk) { block with dirClk := .OUT }) (fun t => t.dirClk == .IN) = true ∧
      holdsAfter (exec (.drvlo .dio) block) (fun t => t.dirDio != block.dirDio) = true ∧
      holdsAfter (exec (.rel .dio) { block with dirDio := .OUT }) (fun t => t.dirDio == .IN) = true ∧
      holdsAfter (exec .drvloIfAck { block with ackLast := false }) (fun t => t.dirDio != block.dirDio) = true := by decide

/-- RegistersHaveOneWriter: each register is changed somewhere by the instruction it names. -/
theorem witness_writers :
    holdsAfter (exec (.setbrt 0x03#8) block) (fun t => t.brightness != block.brightness && t.brtSet != block.brtSet) = true ∧
      holdsAfter (exec (.ldslot 3#2 0x80#8) block) (fun t => t.frame != block.frame) = true ∧
      holdsAfter (exec .sample { block with draws := [false] }) (fun t => t.ackLast != block.ackLast) = true ∧
      holdsAfter (exec .sample { block with draws := [true] }) (fun t => t.nackSeen != block.nackSeen) = true ∧
      holdsAfter (exec .clrst flagged) (fun t => t.nackSeen != flagged.nackSeen) = true := by decide

/-- StickyFlagsAreClearedOnlyByClrstOrReset: each flag is cleared somewhere, by CLRST and by reset. -/
theorem witness_sticky_flags :
    flagged.prog = [] ∧ holdsAfter (presented 0x4000#16 flagged) (fun t => !t.nackSeen && !t.errIllegal && !t.errBusy) = true ∧
      holdsAfter (step { flagged with inputs := [.reset], brtSet := true }) (fun t => !t.nackSeen && !t.brtSet) = true := by decide

/-- TraceAndFaultRecordOnlyGrow: a step that emits, and one that records. -/
theorem witness_records :
    holdsAfter (step working) (fun t => t.trace == [.drive .dio]) = true ∧
      holdsAfter (presented 0x0000#16 block) (fun t => t.faultRecord == [{ cause := .illegal, word := 0x0000#16 }]) = true := by decide

/-- FaultRecordGrowsExactlyWithDroppedWords: an entry of each cause, and a step that adds none. -/
theorem witness_fault_entries :
    block.prog = [] ∧ working.prog = [] ∧
      holdsAfter (presented 0x0000#16 block) (fun t => t.faultRecord.length == 1 && t.errIllegal) = true ∧
      holdsAfter (presented 0x10FF#16 working) (fun t => t.faultRecord.length == 1 && t.errBusy) = true ∧
      holdsAfter (presented 0x10FF#16 block) (fun t => t.faultRecord.isEmpty) = true := by decide

/-- The statements on the frame builder: digits, a fifth digit with points behind, a point, and a point before any digit. -/
theorem witness_frame_builder :
    (∀ ch ∈ [0x31#8, 0x32#8, 0x33#8, 0x34#8, 0x35#8], isPunct ch = false) ∧
      4 ≤ ([0x31#8, 0x32#8, 0x33#8, 0x34#8] : List Byte).countP (fun c => !isPunct c) ∧ isPunct 0x35#8 = false ∧
      (∀ c ∈ ([0x2E#8] : List Byte), isPunct c = true) ∧ isPunct 0x3B#8 = true ∧
      isPunct 0x31#8 = false ∧ isPunct 0x2E#8 = true ∧ isPunct 0x32#8 = false := by decide

/-- PunctuationFoldsIntoThePrecedingSlot: a fold into slot 1 after "12", one into slot 3 after "12345" (V-F3), and a digit after the
point that takes slot 2. -/
theorem witness_fold_slots :
    isPunct 0x2E#8 = true ∧
      (1 : Fin 4).val + 1 = min (([0x31#8, 0x32#8] : List Byte).countP fun ch => !isPunct ch) 4 ∧
      (3 : Fin 4).val + 1 = min (([0x31#8, 0x32#8, 0x33#8, 0x34#8, 0x35#8] : List Byte).countP fun ch => !isPunct ch) 4 ∧
      (2 : Fin 4).val = (([0x31#8, 0x32#8] : List Byte).countP fun ch => !isPunct ch) ∧ isPunct 0x33#8 = false := by decide

/-- ShownDisplaysItsMasks, where its ranges meet and end. -/
theorem witness_shown_lengths :
    Quiet block ∧ ([] : List Byte).length ≤ 4 ∧ (List.replicate 4 0xFF#8).length ≤ 4 ∧ 4 < (List.replicate 5 0xFF#8).length :=
  ⟨witness_quiet.1, by decide, by decide, by decide⟩

/-- AssemblerRefusesWhatItCannotSpell, on both sides of each range. -/
theorem witness_assembler_ranges :
    assembleLine segTableDefault (.setbrt 255) = some [.word 0x10FF#16] ∧ assembleLine segTableDefault (.setbrt 256) = none ∧
      assembleLine segTableDefault (.ldslot 3 255) = some [.word 0x23FF#16] ∧ assembleLine segTableDefault (.ldslot 4 0) = none ∧
      assembleLine segTableDefault (.setseg 4 255) = some [.word 0x34FF#16] ∧ assembleLine segTableDefault (.setseg 5 0) = none ∧
      assembleLine segTableDefault (.rawWord 0xFFFF) = some [.word 0xFFFF#16] ∧
      assembleLine segTableDefault (.rawWord 0x10000) = none := by decide

end Sys2Proof.Tests
end

section
/-! PROOFS. What one step can do, said once; the register and queue discipline of 10_state.md. -/

/-! ## Facts about the state's operations -/

namespace Sys2Proof.Machine

variable (s : State) (c : CmdError) (w : CmdWord)

@[simp] theorem State.raiseCmdError_dirClk : (s.raiseCmdError c w).dirClk = s.dirClk := by cases c <;> rfl
@[simp] theorem State.raiseCmdError_dirDio : (s.raiseCmdError c w).dirDio = s.dirDio := by cases c <;> rfl
@[simp] theorem State.raiseCmdError_brightness : (s.raiseCmdError c w).brightness = s.brightness := by cases c <;> rfl
@[simp] theorem State.raiseCmdError_frame_eq : (s.raiseCmdError c w).frame = s.frame := by cases c <;> rfl
@[simp] theorem State.raiseCmdError_ackLast : (s.raiseCmdError c w).ackLast = s.ackLast := by cases c <;> rfl
@[simp] theorem State.raiseCmdError_nackSeen : (s.raiseCmdError c w).nackSeen = s.nackSeen := by cases c <;> rfl
@[simp] theorem State.raiseCmdError_brtSet : (s.raiseCmdError c w).brtSet = s.brtSet := by cases c <;> rfl
@[simp] theorem State.raiseCmdError_uq : (s.raiseCmdError c w).uq = s.uq := by cases c <;> rfl
@[simp] theorem State.raiseCmdError_prog : (s.raiseCmdError c w).prog = s.prog := by cases c <;> rfl

/-- Raising an error sets the flag of its cause and leaves the other one. -/
@[simp] theorem State.raiseCmdError_errIllegal :
    (s.raiseCmdError c w).errIllegal = (s.errIllegal || decide (c = .illegal)) := by
  cases c <;> simp [State.raiseCmdError]

@[simp] theorem State.raiseCmdError_errBusy :
    (s.raiseCmdError c w).errBusy = (s.errBusy || decide (c = .busy)) := by
  cases c <;> simp [State.raiseCmdError]

/-- The bits of STATUS, lowest first; those above them are reserved 0 (10_state.md R30). -/
theorem State.getLsbD_status (i : Nat) :
    s.status.getLsbD i = [s.busy, s.ackLast, s.nackSeen, s.errIllegal, s.errBusy, s.brtSet].getD i false := by
  simp only [State.status, BitVec.getLsbD_append]
  match i with
  | 0 | 1 | 2 | 3 | 4 | 5 => simp
  | i + 6 => simp

/-- NACK_SEEN gathers the levels that the SAMPLEs leave in ACK_LAST (10_state.md R33). -/
theorem State.sampleDio_nackSeen : s.sampleDio.nackSeen = (s.nackSeen || s.sampleDio.ackLast) := by
  cases h : s.dirDio
  · simp [State.sampleDio_in h]
  · simp [State.sampleDio_out h]

/-- No line micro-op clears NACK_SEEN. -/
theorem perform_nackSeen (u : MicroOp) (h : s.nackSeen = true) : (perform u s).nackSeen = true := by
  cases u with
  | drvlo l => cases l <;> exact h
  | rel l => cases l <;> exact h
  | wait => exact h
  | sample => simp [perform, State.sampleDio_nackSeen, h]
  | drvloIfAck => cases ha : s.ackLast <;> simp [perform, ha, h]

/-! ## What an instruction, a decoded word and a step can do -/

theorem exec_setseg_cases {s t : State} {len : BitVec 3} {pos : Byte} (h : exec (.setseg len pos) s = .next t) :
    (len.toNat ≤ maxLen ∧ t = s.setUq (expandProgram (updateProgram s.frame s.brightness len pos))) ∨
      (¬ len.toNat ≤ maxLen ∧ t = s.raiseCmdError .illegal (0x06#5 ++ len ++ pos)) := by
  by_cases hl : len.toNat ≤ maxLen
  · rw [exec_setseg s hl] at h; cases h; exact .inl ⟨hl, rfl⟩
  · rw [exec_setseg_illegal s hl] at h; cases h; exact .inr ⟨hl, rfl⟩

theorem exec_drvloIfAck_cases {s t : State} (h : exec .drvloIfAck s = .next t) :
    (s.ackLast = false ∧ t = s.driveLow .dio) ∨ (s.ackLast = true ∧ t = s) := by
  cases ha : s.ackLast with
  | false => rw [exec_drvloIfAck_acked ha] at h; cases h; exact .inl ⟨rfl, rfl⟩
  | true => rw [exec_drvloIfAck_nacked ha] at h; cases h; exact .inr ⟨rfl, rfl⟩

/-- The one word with opcode 4 and bits 11:0 zero is 0x4000 (30_encoding.md R69). -/
theorem eq_clrst_word {w : CmdWord} (hop : opOf w = 0x4#4) (hlow : (field w 0 12 : BitVec 12) = 0#12) : w = 0x4000#16 := by
  have h1 := congrArg BitVec.toNat hop
  have h2 := congrArg BitVec.toNat hlow
  simp only [opOf, field, BitVec.extractLsb'_toNat, Nat.shiftRight_eq_div_pow, BitVec.toNat_ofNat] at h1 h2
  apply BitVec.eq_of_toNat_eq
  simp only [BitVec.toNat_ofNat]
  omega

/-- The host commands that a word can decode to (30_encoding.md R71); CLRST has the one word 0x4000. -/
theorem decodeCmd_ok_cases {w : CmdWord} {i : Instr} (h : decodeCmd w = .ok i) :
    (∃ level, i = .setbrt level) ∨ (∃ slot mask, i = .ldslot slot mask) ∨
      (∃ len pos, len.toNat ≤ maxLen ∧ i = .setseg len pos) ∨ (i = .clrst ∧ w = 0x4000#16) := by
  unfold decodeCmd at h
  split at h
  · cases h; exact .inl ⟨_, rfl⟩
  split at h
  · cases h; exact .inr (.inl ⟨_, _, rfl⟩)
  split at h
  next hs => obtain ⟨-, -, hlen⟩ := hs; cases h; exact .inr (.inr (.inl ⟨_, _, hlen, rfl⟩))
  split at h
  next hc => obtain ⟨hop, hlow⟩ := hc; cases h; exact .inr (.inr (.inr ⟨rfl, eq_clrst_word hop hlow⟩))
  · cases h

/-- The state with this step's input of the outside, if there is one, used up. -/
def State.inputTaken (s : State) : State := s.setInputs s.inputs.tail

@[simp] theorem State.inputTaken_nackSeen : s.inputTaken.nackSeen = s.nackSeen := rfl
@[simp] theorem State.inputTaken_errIllegal : s.inputTaken.errIllegal = s.errIllegal := rfl
@[simp] theorem State.inputTaken_errBusy : s.inputTaken.errBusy = s.errBusy := rfl
@[simp] theorem State.inputTaken_brtSet : s.inputTaken.brtSet = s.brtSet := rfl
@[simp] theorem State.inputTaken_uq : s.inputTaken.uq = s.uq := rfl
@[simp] theorem State.inputTaken_prog : s.inputTaken.prog = s.prog := rfl

/-- What one step can do (10_state.md R43), with the state it leads to: a reset, a word presented (dropped while busy, dropped as
illegal, or one of the four commands), or the sequencer's turn, which it has when the outside gives `idle` or nothing more. -/
inductive StepTo (s : State) : State → Prop
  | reset (hin : s.inputs.head? = some .reset) : StepTo s s.inputTaken.resetStep
  | droppedBusy (w : CmdWord) (hin : s.inputs.head? = some (.present w)) (hq : s.uq ≠ []) :
      StepTo s (s.inputTaken.raiseCmdError .busy w)
  | droppedIllegal (w : CmdWord) (e : DecodeError) (hin : s.inputs.head? = some (.present w)) (hq : s.uq = [])
      (hd : decodeCmd w = .error e) : StepTo s (s.inputTaken.raiseCmdError .illegal w)
  | setbrt (w : CmdWord) (level : Byte) (hin : s.inputs.head? = some (.present w)) (hq : s.uq = [])
      (hd : decodeCmd w = .ok (.setbrt level)) :
      StepTo s (s.inputTaken.setBrightness (maskBrightness level)).markBrtSet
  | ldslot (w : CmdWord) (slot : BitVec 2) (mask : Byte) (hin : s.inputs.head? = some (.present w)) (hq : s.uq = [])
      (hd : decodeCmd w = .ok (.ldslot slot mask)) : StepTo s (s.inputTaken.setSlot slot mask)
  | setseg (w : CmdWord) (len : BitVec 3) (pos : Byte) (hin : s.inputs.head? = some (.present w)) (hq : s.uq = [])
      (hd : decodeCmd w = .ok (.setseg len pos)) (hlen : len.toNat ≤ maxLen) :
      StepTo s (s.inputTaken.setUq (expandProgram (updateProgram s.frame s.brightness len pos)))
  | clrst (hin : s.inputs.head? = some (.present 0x4000#16)) (hq : s.uq = []) : StepTo s s.inputTaken.clearSticky
  | transport (op : TransportOp) (rest : List TransportOp) (hin : s.inputs.head?.getD .idle = .idle) (hp : s.prog = op :: rest) :
      StepTo s ((s.inputTaken.setProg rest).enqueue op.expand)
  | microOp (u : MicroOp) (rest : List MicroOp) (hin : s.inputs.head?.getD .idle = .idle) (hp : s.prog = [])
      (hq : s.uq = u :: rest) :
      StepTo s ((perform u s.inputTaken).setUq rest)
  | idle (hin : s.inputs.head?.getD .idle = .idle) (hp : s.prog = []) (hq : s.uq = []) : StepTo s s.inputTaken

/-- The accept step of a word presented does one of the things that `StepTo` lists. -/
theorem stepTo_of_accept {s t : State} {w : CmdWord} (hin : s.inputs.head? = some (.present w))
    (h : accept w s.inputTaken = .next t) : StepTo s t := by
  by_cases hq : s.uq = []
  · have hq' : s.inputTaken.uq = [] := hq
    cases hd : decodeCmd w with
    | error e => rw [accept_illegal hq' hd] at h; cases h; exact .droppedIllegal w e hin hq hd
    | ok i =>
      rw [accept_legal hq' hd] at h
      obtain ⟨level, rfl⟩ | ⟨slot, mask, rfl⟩ | ⟨len, pos, hlen, rfl⟩ | ⟨rfl, rfl⟩ := decodeCmd_ok_cases hd
      · cases h; exact .setbrt w level hin hq hd
      · cases h; exact .ldslot w slot mask hin hq hd
      · rw [exec_setseg _ hlen] at h; cases h; exact .setseg w len pos hin hq hd hlen
      · cases h; exact .clrst hin hq
  · have hq' : s.inputTaken.uq ≠ [] := hq
    rw [accept_busy w hq'] at h; cases h; exact .droppedBusy w hin hq

/-- The sequencer's turn does one of the things that `StepTo` lists. -/
theorem stepTo_of_sequence {s t : State} (hin : s.inputs.head?.getD .idle = .idle)
    (h : sequence s.inputTaken = .next t) : StepTo s t := by
  cases hp : s.prog with
  | cons op rest =>
    rw [sequence_prog (s := s.inputTaken) hp, exec_transportOp] at h
    cases h; exact .transport op rest hin hp
  | nil =>
    cases hq : s.uq with
    | cons u rest =>
      rw [sequence_uq (s := s.inputTaken) hp hq, exec_microOp, perform_setUq] at h
      cases h; exact .microOp u rest hin hp hq
    | nil =>
      rw [sequence_idle (s := s.inputTaken) hp hq] at h
      cases h; exact .idle hin hp hq

/-- Every step does one of the things that `StepTo` lists. -/
theorem stepTo_of_step {s t : State} (h : step s = .next t) : StepTo s t := by
  cases hi : s.inputs with
  | nil =>
    have hs : s.inputTaken = s := by cases s; cases hi; rfl
    rw [step_quiet hi, ← hs] at h; exact stepTo_of_sequence (by simp [hi]) h
  | cons i rest =>
    have hs : s.setInputs rest = s.inputTaken := by simp [State.inputTaken, hi]
    cases i with
    | present w => rw [step_present hi, hs] at h; exact stepTo_of_accept (by simp [hi]) h
    | reset => rw [step_resetInput hi, hs] at h; cases h; exact .reset (by simp [hi])
    | idle => rw [step_idleInput hi, hs] at h; exact stepTo_of_sequence (by simp [hi]) h

end Sys2Proof.Machine

/-! ## The queue -/

namespace Sys2Proof

open Machine

/-- What remains of an update is still so when more of it is performed. -/
theorem QueueFromUpdate.of_suffix {s t : State} (h : QueueFromUpdate s) (hp : t.prog = []) (hq : t.uq <:+ s.uq) :
    QueueFromUpdate t := by
  obtain ⟨-, frame, brightness, len, pos, hlen, hsuf⟩ := h
  exact ⟨hp, frame, brightness, len, pos, hlen, hq.trans hsuf⟩

/-- Settles O41, by the cases of a step: SETSEG loads a whole update, every other step keeps the queue, empties it or takes its
head. -/
theorem everyStepKeepsTheQueueOfOneUpdate : Obligations.EveryStepKeepsTheQueueOfOneUpdate := by
  unfold Obligations.EveryStepKeepsTheQueueOfOneUpdate
  intro s t hs hstep
  have hp : s.prog = [] := hs.1
  cases stepTo_of_step hstep with
  | setseg w len pos hin hq hd hlen => exact ⟨hp, _, _, len, pos, hlen, List.suffix_rfl⟩
  | transport op rest hin hp' => simp [hp] at hp'
  | microOp u rest _ _ hq =>
    obtain ⟨-, hprog, -⟩ := perform_frame u s.inputTaken
    exact hs.of_suffix (hprog.trans hp) (hq ▸ List.suffix_cons u rest)
  | reset => exact hs.of_suffix rfl List.nil_suffix
  | droppedBusy | droppedIllegal => exact hs.of_suffix (by simpa using hp) (by simp)
  | setbrt | ldslot | clrst | idle => exact hs.of_suffix hp List.suffix_rfl

/-! ## The registers and their writers -/

/-- Settles O44, by the instruction: no command and no transport operation writes a direction. -/
theorem onlyLineOpsChangeDirections : Obligations.OnlyLineOpsChangeDirections := by
  unfold Obligations.OnlyLineOpsChangeDirections
  intro i s t h
  cases i with
  | drvlo l => cases h; cases l <;> simp
  | rel l => cases h; cases l <;> simp
  | drvloIfAck => obtain ⟨-, rfl⟩ | ⟨-, rfl⟩ := exec_drvloIfAck_cases h <;> simp
  | sample => cases h; simp [s.sampleDio_frame]
  | setseg len pos => obtain ⟨-, rfl⟩ | ⟨-, rfl⟩ := exec_setseg_cases h <;> simp
  | setbrt | ldslot | clrst | wait | start | stop | wrb => cases h; simp

/-- Settles O45, by the instruction: each register named has the writer named and no other. -/
theorem registersHaveOneWriter : Obligations.RegistersHaveOneWriter := by
  unfold Obligations.RegistersHaveOneWriter
  intro i s t h
  cases i with
  | sample => cases h; cases hn : s.nackSeen <;> simp [s.sampleDio_frame, s.sampleDio_nackSeen, hn]
  | drvlo l => cases h; cases l <;> simp
  | rel l => cases h; cases l <;> simp
  | drvloIfAck => obtain ⟨-, rfl⟩ | ⟨-, rfl⟩ := exec_drvloIfAck_cases h <;> simp
  | setseg len pos => obtain ⟨-, rfl⟩ | ⟨-, rfl⟩ := exec_setseg_cases h <;> simp
  | setbrt | ldslot | clrst | wait | start | stop | wrb => cases h; simp

/-- Settles O46, by the cases of a step: only the CLRST word at an idle block and the reset clear a flag. -/
theorem stickyFlagsAreClearedOnlyByClrstOrReset : Obligations.StickyFlagsAreClearedOnlyByClrstOrReset := by
  unfold Obligations.StickyFlagsAreClearedOnlyByClrstOrReset
  intro s t hstep hp
  cases stepTo_of_step hstep with
  | reset hin => exact ⟨fun _ => .inr hin, fun _ _ => hin⟩
  | clrst hin hq => exact ⟨fun _ => .inl ⟨hq, hin⟩, by simp +contextual⟩
  | transport op rest hin hp' => simp [hp] at hp'
  | microOp u rest _ _ hq =>
    have hnack := perform_nackSeen s.inputTaken u
    obtain ⟨-, -, -, -, -, hill, hbusy, hbrt, -⟩ := perform_frame u s.inputTaken
    simp +contextual [hill, hbusy, hbrt, hnack]
  | droppedBusy | droppedIllegal | setbrt | ldslot | setseg | idle => simp +contextual

/-! ## STATUS and the pads -/

/-- Settles O17: the eight bits of STATUS, read off its assembly. -/
theorem statusHasItsLayout : Obligations.StatusHasItsLayout := by
  unfold Obligations.StatusHasItsLayout
  refine ⟨rfl, fun s => ?_⟩
  simp only [State.getLsbD_status]
  simp [State.busy_eq_true_iff]

/-- Settles O50: the output latch is hardwired, and the output enable and the level both follow the direction. -/
theorem padsNeverDriveHigh : Obligations.PadsNeverDriveHigh := by
  unfold Obligations.PadsNeverDriveHigh
  intro l s
  refine ⟨rfl, ?_, fun ext => ?_⟩
  · simp [State.pad]
  · cases hd : s.dir l <;> simp [State.pad, level, hd]

end Sys2Proof
end

section
/-! PROOFS. The two encodings, read as numbers, and the assembler's words (30_encoding.md). -/

/-! ## Fields and words as numbers -/

namespace Sys2Proof

theorem toNat_field {n : Nat} (v : BitVec n) (lo len : Nat) : (field v lo len).toNat = v.toNat / 2 ^ lo % 2 ^ len := by
  simp [field, Nat.shiftRight_eq_div_pow]

theorem field_eq_iff {n : Nat} (v : BitVec n) (lo len : Nat) (x : BitVec len) :
    field v lo len = x ↔ v.toNat / 2 ^ lo % 2 ^ len = x.toNat := by
  rw [← toNat_field, BitVec.toNat_inj]

theorem toNat_append_eq_add {m n : Nat} (x : BitVec m) (y : BitVec n) : (x ++ y).toNat = x.toNat * 2 ^ n + y.toNat := by
  rw [BitVec.toNat_append, ← Nat.shiftLeft_add_eq_or_of_lt y.isLt, Nat.shiftLeft_eq]

/-- The word of SETBRT as a number (30_encoding.md R66). -/
theorem toNat_setbrtWord (level : Byte) : (0x10#8 ++ level).toNat = 0x1000 + level.toNat := by
  simp only [toNat_append_eq_add, BitVec.toNat_ofNat]; omega

/-- The word of LDSLOT as a number (R67). -/
theorem toNat_ldslotWord (slot : BitVec 2) (mask : Byte) :
    (0x08#6 ++ slot ++ mask).toNat = 0x2000 + slot.toNat * 0x100 + mask.toNat := by
  simp only [toNat_append_eq_add, BitVec.toNat_ofNat]; omega

/-- The word of SETSEG as a number, of an illegal length too (R68). -/
theorem toNat_setsegWord (len : BitVec 3) (pos : Byte) :
    (0x06#5 ++ len ++ pos).toNat = 0x3000 + len.toNat * 0x100 + pos.toNat := by
  simp only [toNat_append_eq_add, BitVec.toNat_ofNat]; omega

/-! ## Host words -/

theorem decodeCmd_eq_setbrt {w : CmdWord} {level : Byte} (hw : w.toNat = 0x1000 + level.toNat) :
    decodeCmd w = .ok (.setbrt level) := by
  have hop : opOf w = 0x1#4 := by simp only [opOf, field_eq_iff, hw, BitVec.toNat_ofNat]; omega
  have hres : (field w 8 4 : BitVec 4) = 0#4 := by simp only [field_eq_iff, hw, BitVec.toNat_ofNat]; omega
  have hlevel : (field w 0 8 : Byte) = level := by simp only [field_eq_iff, hw]; omega
  simp [decodeCmd, hop, hres, hlevel]

theorem decodeCmd_eq_ldslot {w : CmdWord} {slot : BitVec 2} {mask : Byte}
    (hw : w.toNat = 0x2000 + slot.toNat * 0x100 + mask.toNat) : decodeCmd w = .ok (.ldslot slot mask) := by
  have hop : opOf w = 0x2#4 := by simp only [opOf, field_eq_iff, hw, BitVec.toNat_ofNat]; omega
  have hres : (field w 10 2 : BitVec 2) = 0#2 := by simp only [field_eq_iff, hw, BitVec.toNat_ofNat]; omega
  have hslot : (field w 8 2 : BitVec 2) = slot := by simp only [field_eq_iff, hw]; omega
  have hmask : (field w 0 8 : Byte) = mask := by simp only [field_eq_iff, hw]; omega
  simp [decodeCmd, hop, hres, hslot, hmask]

theorem decodeCmd_eq_setseg {w : CmdWord} {len : BitVec 3} {pos : Byte}
    (hw : w.toNat = 0x3000 + len.toNat * 0x100 + pos.toNat) (hlen : len.toNat ≤ maxLen) :
    decodeCmd w = .ok (.setseg len pos) := by
  have hop : opOf w = 0x3#4 := by simp only [opOf, field_eq_iff, hw, BitVec.toNat_ofNat]; omega
  have hres : (field w 11 1 : BitVec 1) = 0#1 := by simp only [field_eq_iff, hw, BitVec.toNat_ofNat]; omega
  have hlenw : lenOf w = len := by simp only [lenOf, field_eq_iff, hw]; omega
  have hpos : (field w 0 8 : Byte) = pos := by simp only [field_eq_iff, hw]; omega
  simp [decodeCmd, hop, hres, hlenw, hlen, hpos]

/-- A host word that decodes is the word of what it decodes to, by the branches of the decoding procedure (R71). -/
theorem encode_of_decodeCmd {w : CmdWord} {i : Instr} (h : decodeCmd w = .ok i) :
    i.wellFormed = true ∧ encode i = .cmd16 w := by
  have hw := w.isLt
  simp only [decodeCmd, opOf, lenOf, field_eq_iff, BitVec.toNat_ofNat] at h
  split at h
  · cases h
    refine ⟨rfl, congrArg CodeWord.cmd16 (BitVec.eq_of_toNat_eq ?_)⟩
    rw [toNat_setbrtWord, toNat_field]; omega
  split at h
  · cases h
    refine ⟨rfl, congrArg CodeWord.cmd16 (BitVec.eq_of_toNat_eq ?_)⟩
    rw [toNat_ldslotWord, toNat_field, toNat_field]; omega
  split at h
  next hs =>
    obtain ⟨hop, hres, hlen⟩ := hs
    cases h
    refine ⟨decide_eq_true hlen, congrArg CodeWord.cmd16 (BitVec.eq_of_toNat_eq ?_)⟩
    rw [toNat_setsegWord, toNat_field, toNat_field]; omega
  split at h
  · cases h
    refine ⟨rfl, congrArg CodeWord.cmd16 (BitVec.eq_of_toNat_eq ?_)⟩
    rw [BitVec.toNat_ofNat]; omega
  · cases h

/-- The words that the decoding procedure refuses, in the terms of R72: no branch of it applies to one, and some branch to every
other. -/
theorem decodeCmd_error_iff (w : CmdWord) : (∃ e, decodeCmd w = .error e) ↔
    (w.toNat / 0x1000 = 0 ∨ 5 ≤ w.toNat / 0x1000) ∨
    (w.toNat / 0x1000 = 1 ∧ w.toNat / 0x100 % 16 ≠ 0) ∨
    (w.toNat / 0x1000 = 2 ∧ w.toNat / 0x400 % 4 ≠ 0) ∨
    (w.toNat / 0x1000 = 3 ∧ w.toNat / 0x800 % 2 ≠ 0) ∨
    (w.toNat / 0x1000 = 4 ∧ w.toNat % 0x1000 ≠ 0) ∨
    (w.toNat / 0x1000 = 3 ∧ 5 ≤ w.toNat / 0x100 % 8) := by
  have hw := w.isLt
  simp only [decodeCmd, opOf, lenOf, field_eq_iff, toNat_field, BitVec.toNat_ofNat, maxLen]
  split
  next hsetbrt => simp only [reduceCtorEq, exists_false, false_iff]; omega
  split
  next hldslot => simp only [reduceCtorEq, exists_false, false_iff]; omega
  split
  next hsetseg => simp only [reduceCtorEq, exists_false, false_iff]; omega
  split
  next hclrst => simp only [reduceCtorEq, exists_false, false_iff]; omega
  next => simp only [Except.error.injEq, exists_eq', true_iff]; omega

/-! ## Micro-words -/

theorem uopOf_append (u : BitVec 4) (a : Byte) : uopOf (u ++ a) = u := BitVec.extractLsb'_append_eq_left

theorem argOf_append (u : BitVec 4) (a : Byte) : argOf (u ++ a) = a := BitVec.extractLsb'_append_eq_right

theorem uopOf_append_argOf (w : UopWord) : uopOf w ++ argOf w = w := BitVec.extractLsb'_append_extractLsb' (w := 4) (len := 8)

theorem decodeLine_eq_ok_iff {a : Byte} {l : Line} : decodeLine a = .ok l ↔ a = encodeLine l := by
  unfold decodeLine
  split
  next h => subst h; cases l <;> decide
  split
  next h => subst h; cases l <;> decide
  next hclk hdio => cases l <;> simp [encodeLine, hclk, hdio]

theorem decodeFixed_eq_ok_iff {a want : Byte} {i j : Instr} : decodeFixed a want i = .ok j ↔ a = want ∧ i = j := by
  by_cases h : a = want <;> simp [decodeFixed, h]

/-- A row of R77 with one listed argument. -/
theorem encode_of_decodeFixed {w : UopWord} {u : BitVec 4} {want : Byte} {i j : Instr} (hu : uopOf w = u)
    (hi : i.wellFormed = true ∧ encode i = .uop12 (u ++ want)) (h : decodeFixed (argOf w) want i = .ok j) :
    j.wellFormed = true ∧ encode j = .uop12 w := by
  obtain ⟨ha, rfl⟩ := decodeFixed_eq_ok_iff.mp h
  rwa [← uopOf_append_argOf w, hu, ha]

/-- A row of R77 whose argument names a line. -/
theorem encode_of_decodeLine {w : UopWord} {u : BitVec 4} {op : Line → Instr} {j : Instr} (hu : uopOf w = u)
    (hop : ∀ l, (op l).wellFormed = true ∧ encode (op l) = .uop12 (u ++ encodeLine l))
    (h : (decodeLine (argOf w)).map op = .ok j) : j.wellFormed = true ∧ encode j = .uop12 w := by
  cases hl : decodeLine (argOf w) with
  | error e => rw [hl] at h; cases h
  | ok l =>
    rw [hl] at h; cases h
    rw [← uopOf_append_argOf w, hu, decodeLine_eq_ok_iff.mp hl]
    exact hop l

/-- A micro-word that decodes is the word of what it decodes to, by the rows of R77. -/
theorem encode_of_decodeUop {w : UopWord} {i : Instr} (h : decodeUop w = .ok i) : i.wellFormed = true ∧ encode i = .uop12 w := by
  unfold decodeUop at h
  split at h
  next hdrvlo => exact encode_of_decodeLine hdrvlo (fun _ => ⟨rfl, rfl⟩) h
  split at h
  next hrel => exact encode_of_decodeLine hrel (fun _ => ⟨rfl, rfl⟩) h
  split at h
  next hwait => exact encode_of_decodeFixed hwait ⟨rfl, rfl⟩ h
  split at h
  next hsample => exact encode_of_decodeFixed hsample ⟨rfl, rfl⟩ h
  split at h
  next hifAck => exact encode_of_decodeFixed hifAck ⟨rfl, rfl⟩ h
  split at h
  next hstart => exact encode_of_decodeFixed hstart ⟨rfl, rfl⟩ h
  split at h
  next hstop => exact encode_of_decodeFixed hstop ⟨rfl, rfl⟩ h
  split at h
  next hwrb => cases h; exact ⟨rfl, by rw [encode, ← hwrb, uopOf_append_argOf]⟩
  · cases h

end Sys2Proof

/-! ## The assembler -/

namespace Sys2Proof.Machine

/-- An immediate is the number written, or it is refused (R79). -/
theorem immediate_cases (w n : Nat) :
    (∃ x : BitVec w, x.toNat = n ∧ immediate w n = some x) ∨ (2 ^ w ≤ n ∧ immediate w n = none) := by
  by_cases h : n < 2 ^ w
  · exact .inl ⟨BitVec.ofNat w n, by simp [Nat.mod_eq_of_lt h], if_pos h⟩
  · exact .inr ⟨Nat.not_lt.mp h, if_neg h⟩

theorem hostWord_setbrt (level : Byte) : hostWord (.setbrt level) = some (BitVec.ofNat 16 (0x1000 + level.toNat)) := by
  simp [← toNat_setbrtWord, hostWord, encode, Instr.wellFormed]

theorem hostWord_ldslot (slot : BitVec 2) (mask : Byte) :
    hostWord (.ldslot slot mask) = some (BitVec.ofNat 16 (0x2000 + slot.toNat * 0x100 + mask.toNat)) := by
  simp [← toNat_ldslotWord, hostWord, encode, Instr.wellFormed]

theorem hostWord_setseg (len : BitVec 3) (pos : Byte) : hostWord (.setseg len pos) =
    if len.toNat ≤ 4 then some (BitVec.ofNat 16 (0x3000 + len.toNat * 0x100 + pos.toNat)) else none := by
  by_cases h : len.toNat ≤ 4 <;> simp [← toNat_setsegWord, hostWord, encode, Instr.wellFormed, maxLen, h]

variable (seg : Byte → Byte)

theorem assembleLine_setbrt (a : Nat) : assembleLine seg (.setbrt a) =
    if a ≤ 255 then some [.word (BitVec.ofNat 16 (0x1000 + a))] else none := by
  obtain ⟨level, rfl, ha⟩ | ⟨hlt, ha⟩ := immediate_cases 8 a
  · simp [assembleLine, ha, hostWord_setbrt, Nat.le_of_lt_succ level.isLt]
  · simp [assembleLine, ha, Nat.not_le.mpr hlt]

theorem assembleLine_ldslot (a b : Nat) : assembleLine seg (.ldslot a b) =
    if a ≤ 3 ∧ b ≤ 255 then some [.word (BitVec.ofNat 16 (0x2000 + a * 0x100 + b))] else none := by
  obtain ⟨slot, rfl, ha⟩ | ⟨hlt, ha⟩ := immediate_cases 2 a
  · obtain ⟨mask, rfl, hb⟩ | ⟨hlt, hb⟩ := immediate_cases 8 b
    · simp [assembleLine, ha, hb, hostWord_ldslot, Nat.le_of_lt_succ slot.isLt, Nat.le_of_lt_succ mask.isLt]
    · simp [assembleLine, ha, hb, Nat.not_le.mpr hlt]
  · simp [assembleLine, ha, Nat.not_le.mpr hlt]

theorem assembleLine_setseg (a b : Nat) : assembleLine seg (.setseg a b) =
    if a ≤ 4 ∧ b ≤ 255 then some [.word (BitVec.ofNat 16 (0x3000 + a * 0x100 + b))] else none := by
  obtain ⟨len, rfl, ha⟩ | ⟨hlt, ha⟩ := immediate_cases 3 a
  · obtain ⟨pos, rfl, hb⟩ | ⟨hlt, hb⟩ := immediate_cases 8 b
    · by_cases hl : len.toNat ≤ 4
      · simp [assembleLine, ha, hb, hostWord_setseg, hl, Nat.le_of_lt_succ pos.isLt]
      · simp [assembleLine, ha, hb, hostWord_setseg, hl]
    · simp [assembleLine, ha, hb, Nat.not_le.mpr hlt]
  · simp [assembleLine, ha, show ¬ a ≤ 4 by omega]

theorem assembleLine_rawWord (a : Nat) : assembleLine seg (.rawWord a) =
    if a ≤ 0xFFFF then some [.word (BitVec.ofNat 16 a)] else none := by
  obtain ⟨w, rfl, ha⟩ | ⟨hlt, ha⟩ := immediate_cases 16 a
  · simp [assembleLine, ha, Nat.le_of_lt_succ w.isLt]
  · simp [assembleLine, ha, Nat.not_le.mpr hlt]

end Sys2Proof.Machine

/-! ## The statements -/

namespace Sys2Proof

open Machine

/-- Settles O4, by the instruction: each word's fields are the operands put into it. -/
theorem decodeOfEncodeIsTheInstruction : Obligations.DecodeOfEncodeIsTheInstruction := by
  unfold Obligations.DecodeOfEncodeIsTheInstruction
  intro i hi
  cases i with
  | setbrt level => exact decodeCmd_eq_setbrt (toNat_setbrtWord level)
  | ldslot slot mask => exact decodeCmd_eq_ldslot (toNat_ldslotWord slot mask)
  | setseg len pos => exact decodeCmd_eq_setseg (toNat_setsegWord len pos) (of_decide_eq_true hi)
  | clrst | wait | sample | drvloIfAck | start | stop => decide
  | drvlo l => cases l <;> decide
  | rel l => cases l <;> decide
  | wrb b => simp [encode, decode, decodeUop, uopOf_append, argOf_append]

/-- Settles O5, by the encoding: each branch that decodes gives back the word it was taken for. -/
theorem decodedWordIsItsInstructionsWord : Obligations.DecodedWordIsItsInstructionsWord := by
  unfold Obligations.DecodedWordIsItsInstructionsWord
  intro c i h
  cases c with
  | cmd16 w => exact encode_of_decodeCmd h
  | uop12 w => exact encode_of_decodeUop h

/-- Settles O6: the list is `decodeCmd_error_iff`, and an idle block drops such a word by raising ERR_ILLEGAL. -/
theorem illegalWordsAreExactlyTheListed : Obligations.IllegalWordsAreExactlyTheListed := by
  unfold Obligations.IllegalWordsAreExactlyTheListed
  exact ⟨decodeCmd_error_iff, ⟨_, rfl⟩, fun w s ⟨e, he⟩ hq => accept_illegal hq he⟩

/-- Settles O51, line by line: an immediate is the number written or the line is refused. -/
theorem assemblerRefusesWhatItCannotSpell : Obligations.AssemblerRefusesWhatItCannotSpell := by
  unfold Obligations.AssemblerRefusesWhatItCannotSpell
  exact fun seg a b => ⟨assembleLine_setbrt seg a, assembleLine_ldslot seg a b, assembleLine_setseg seg a b, rfl,
    assembleLine_rawWord seg a⟩

/-- Settles O7: the fixed words, decoded. -/
theorem specExampleWordsDecode : Obligations.SpecExampleWordsDecode := by
  unfold Obligations.SpecExampleWordsDecode
  decide

/-- Settles O8, over the 256 positions and the 16 brightness nibbles. -/
theorem wireBytesHaveTheirFixedBits : Obligations.WireBytesHaveTheirFixedBits := by
  unfold Obligations.WireBytesHaveTheirFixedBits
  exact ⟨rfl, by decide, by decide⟩

/-- Settles O21: the word of a length above 4 is of R72 (c), and the term's meaning raises ERR_ILLEGAL for it. -/
theorem setsegOfIllegalLengthIsDropped : Obligations.SetsegOfIllegalLengthIsDropped := by
  unfold Obligations.SetsegOfIllegalLengthIsDropped
  intro len pos s hlen
  have hw := toNat_setsegWord len pos
  exact ⟨_, rfl, (decodeCmd_error_iff _).mpr (by omega), exec_setseg_illegal s (Nat.not_le.mpr hlen) pos⟩

end Sys2Proof
end

section
/-! PROOFS. What a display update leaves on the bus, and the pseudo-instructions that run one (30_encoding.md R81). -/

namespace Sys2Proof.Machine

/-! ## The line micro-ops as updates of the bus -/

/-- What a list of line micro-ops leaves alone. -/
theorem performs_frame (q : List MicroOp) (s : State) :
    (performs q s).uq = s.uq ∧ (performs q s).prog = s.prog ∧ (performs q s).inputs = s.inputs ∧
      (performs q s).brightness = s.brightness ∧ (performs q s).frame = s.frame ∧
      (performs q s).errIllegal = s.errIllegal ∧ (performs q s).errBusy = s.errBusy ∧ (performs q s).brtSet = s.brtSet ∧
      (performs q s).faultRecord = s.faultRecord := by
  induction q generalizing s with
  | nil => simp
  | cons u q ih => simpa only [performs_cons, perform_frame u s] using ih (perform u s)

/-- The state with the lines in the directions given and `es` emitted: what line micro-ops without a SAMPLE do. -/
def State.onBus (clk dio : Dir) (es : List Event) (s : State) : State :=
  { s with dirClk := clk, dirDio := dio, trace := s.trace ++ es }

/-- The state after one byte on the bus (42_transport.md R98): its SAMPLE has taken a draw, CLK is driven low, and DIO is driven
low exactly if the byte was acknowledged. -/
def State.byteSent (v : Byte) (s : State) : State :=
  (s.takeDraw.recordSample (s.drawAt 0)).onBus .OUT (if s.drawAt 0 then .IN else .OUT) (byteEvents v (s.drawAt 0))

variable (s : State)

section
variable (clk dio : Dir) (es : List Event)

@[simp] theorem State.onBus_dirClk : (s.onBus clk dio es).dirClk = clk := rfl
@[simp] theorem State.onBus_dirDio : (s.onBus clk dio es).dirDio = dio := rfl
@[simp] theorem State.onBus_ackLast : (s.onBus clk dio es).ackLast = s.ackLast := rfl
@[simp] theorem State.onBus_trace : (s.onBus clk dio es).trace = s.trace ++ es := rfl
@[simp] theorem State.onBus_drawAt (k : Nat) : (s.onBus clk dio es).drawAt k = s.drawAt k := rfl
@[simp] theorem State.onBus_takeDraw : (s.onBus clk dio es).takeDraw = s.takeDraw.onBus clk dio es := rfl
@[simp] theorem State.onBus_recordSample (b : Bool) :
    (s.onBus clk dio es).recordSample b = (s.recordSample b).onBus clk dio es := rfl

@[simp] theorem State.onBus_onBus (clk' dio' : Dir) (es' : List Event) :
    (s.onBus clk dio es).onBus clk' dio' es' = s.onBus clk' dio' (es ++ es') := by
  simp [State.onBus]

end

@[simp] theorem perform_drvlo_clk : perform (.drvlo .clk) s = s.onBus .OUT s.dirDio [.drive .clk] := rfl
@[simp] theorem perform_drvlo_dio : perform (.drvlo .dio) s = s.onBus s.dirClk .OUT [.drive .dio] := rfl
@[simp] theorem perform_rel_clk : perform (.rel .clk) s = s.onBus .IN s.dirDio [.release .clk] := rfl
@[simp] theorem perform_rel_dio : perform (.rel .dio) s = s.onBus s.dirClk .IN [.release .dio] := rfl
@[simp] theorem perform_wait : perform .wait s = s.onBus s.dirClk s.dirDio [.wait] := rfl

@[simp] theorem perform_sample_onBus (clk : Dir) (es : List Event) : perform .sample (s.onBus clk .IN es) =
    (s.takeDraw.recordSample (s.drawAt 0)).onBus clk .IN (es ++ [.sample (s.drawAt 0)]) := by
  rw [perform, State.sampleDio_in rfl, ← State.onBus_onBus]; rfl

@[simp] theorem perform_drvloIfAck : perform .drvloIfAck s = if s.ackLast then s else s.onBus s.dirClk .OUT [.drive .dio] := by
  cases h : s.ackLast with
  | false => simp [perform, h]; rfl
  | true => simp [perform, h]

@[simp] theorem State.byteSent_trace (v : Byte) : (s.byteSent v).trace = s.trace ++ byteEvents v (s.drawAt 0) := rfl
@[simp] theorem State.byteSent_drawAt (v : Byte) (k : Nat) : (s.byteSent v).drawAt k = s.drawAt (k + 1) := s.drawAt_takeDraw k

/-! ## The transport operations -/

theorem performs_startOps : performs startOps s = s.onBus s.dirClk .OUT [.drive .dio, .wait] := by
  simp [startOps]

theorem performs_stopOps : performs stopOps s =
    s.onBus .IN .IN [.drive .dio, .wait, .release .clk, .wait, .release .dio, .wait] := by
  simp [stopOps]

/-- One bit group, from any directions (42_transport.md R99). -/
theorem performs_bitOps (x : Bool) : performs (bitOps x) s = s.onBus .IN (if x then .IN else .OUT) (bitEvents x) := by
  cases x <;> simp [bitOps, dataOp, bitEvents]

/-- The ACK tail, from any directions and under either draw (R100). -/
theorem performs_ackTail : performs ackTail s =
    (s.takeDraw.recordSample (s.drawAt 0)).onBus .OUT (if s.drawAt 0 then .IN else .OUT) (ackEvents (s.drawAt 0)) := by
  cases h : s.drawAt 0 <;> simp [ackTail, ackEvents, h]

/-- WRB, from any directions and under either draw (R98). -/
theorem performs_wrbOps (v : Byte) : performs (wrbOps v) s = s.byteSent v := by
  simp only [wrbOps, performs_append, performs_bitOps, performs_ackTail, State.byteSent, byteEvents, bitOf,
    State.onBus_onBus, State.onBus_takeDraw, State.onBus_recordSample, State.onBus_drawAt, List.append_assoc]
  rfl

/-! ## A transaction and an update -/

theorem performs_wrbs_trace (bytes : List Byte) :
    (performs (bytes.flatMap wrbOps) s).trace = s.trace ++ bytesEvents (fun k => s.drawAt k) bytes := by
  induction bytes generalizing s with
  | nil => simp [bytesEvents]
  | cons v bytes ih => simp [performs_append, performs_wrbOps, ih, bytesEvents]

theorem performs_wrbs_drawAt (bytes : List Byte) (k : Nat) :
    (performs (bytes.flatMap wrbOps) s).drawAt k = s.drawAt (k + bytes.length) := by
  induction bytes generalizing s with
  | nil => simp
  | cons v bytes ih => simp [performs_append, performs_wrbOps, ih, Nat.add_assoc]

theorem expandProgram_transaction (bytes : List Byte) :
    expandProgram (transaction bytes) = startOps ++ (bytes.flatMap wrbOps ++ stopOps) := by
  simp [expandProgram, transaction, TransportOp.expand, List.flatMap_map]

/-- A transaction ends with both lines released (42_transport.md R97). -/
theorem performs_transaction_released (bytes : List Byte) :
    (performs (expandProgram (transaction bytes)) s).dirClk = .IN ∧
      (performs (expandProgram (transaction bytes)) s).dirDio = .IN := by
  simp [expandProgram_transaction, performs_append, performs_stopOps]

theorem performs_transaction_trace (bytes : List Byte) : (performs (expandProgram (transaction bytes)) s).trace =
    s.trace ++ transactionEvents (fun k => s.drawAt k) bytes := by
  simp [expandProgram_transaction, performs_append, performs_startOps, performs_stopOps, performs_wrbs_trace, transactionEvents]

theorem performs_transaction_drawAt (bytes : List Byte) (k : Nat) :
    (performs (expandProgram (transaction bytes)) s).drawAt k = s.drawAt (k + bytes.length) := by
  simp [expandProgram_transaction, performs_append, performs_startOps, performs_stopOps, performs_wrbs_drawAt]

variable (frame : Vector Byte 4) (brightness : BitVec 4) (len : BitVec 3) (pos : Byte)

/-- An update is its three transactions, one after the other (43_commands.md R109). -/
theorem performs_update : performs (expandProgram (updateProgram frame brightness len pos)) s =
    performs (expandProgram (transaction [controlByte brightness]))
      (performs (expandProgram (transaction (addressByte pos :: dataBytes frame len)))
        (performs (expandProgram (transaction [preambleByte])) s)) := by
  simp [expandProgram, updateProgram, performs_append]

/-- An update ends on an idle bus (R115). -/
theorem performs_update_released :
    (performs (expandProgram (updateProgram frame brightness len pos)) s).dirClk = .IN ∧
      (performs (expandProgram (updateProgram frame brightness len pos)) s).dirDio = .IN := by
  rw [performs_update]
  exact performs_transaction_released _ _

/-- An update emits its events, each transaction from the draws that those before it have left (R109). -/
theorem performs_update_trace {len : BitVec 3} (hlen : len.toNat ≤ 4) :
    (performs (expandProgram (updateProgram frame brightness len pos)) s).trace =
      s.trace ++ updateEvents (fun k => s.drawAt k) frame brightness len pos := by
  have hdata : (dataBytes frame len).length = len.toNat := List.length_take_of_le (by simpa using hlen)
  have hthird : ∀ k, k + (len.toNat + 1) + 1 = k + 2 + len.toNat := by omega
  simp only [performs_update, performs_transaction_trace, performs_transaction_drawAt, List.length_cons, List.length_nil, hdata,
    hthird]
  simp [updateEvents, preambleByte, addressByte, maskPosition, controlByte, dataBytes]

end Sys2Proof.Machine

/-! ## What a host drives -/

namespace Sys2Proof.Machine

theorem decodeCmd_of_hostWord {i : Instr} {w : CmdWord} (h : hostWord i = some w) : decodeCmd w = .ok i := by
  unfold hostWord at h
  split at h
  next w' hw =>
    split at h
    next hi =>
      cases h
      have hd := decodeOfEncodeIsTheInstruction i hi
      rwa [hw] at hd
    · cases h
  · cases h

variable {s : State}

theorem driveOp_word (w : CmdWord) : driveOp (.word w) s = accept w s := by
  rw [driveOp, step_present rfl]; rfl

/-- The word of a command, presented to an idle block, runs the command (43_commands.md R104). -/
theorem driveOp_hostWord {i : Instr} {w : CmdWord} (h : hostWord i = some w) (hq : s.uq = []) : driveOp (.word w) s = exec i s := by
  rw [driveOp_word, accept_legal hq (decodeCmd_of_hostWord h)]

/-- WAITIDLE performs what is queued (notes/assumptions/18.md). -/
theorem driveOp_waitIdle (q : List MicroOp) (hp : s.prog = []) (hi : s.inputs = []) :
    driveOp .waitIdle (s.setUq q) = .next ((performs q s).setUq []) := by
  rw [driveOp, State.setUq_uq, runSteps_queue (s := s.setUq q) q [] hp hi (List.append_nil q).symm, performs_setUq,
    State.setUq_setUq]

theorem drive_cons {op : HostOp} {ops : List HostOp} {t : State} (h : driveOp op s = .next t) :
    drive (op :: ops) s = drive ops t := by
  simp [drive, h]

/-- SETSEG and WAITIDLE from a quiet block: one update, from FRAME and BRIGHTNESS as they are (43_commands.md R109, R115). -/
theorem drive_setseg {len : BitVec 3} {pos : Byte} {w : CmdWord} (hlen : len.toNat ≤ 4) (hw : hostWord (.setseg len pos) = some w)
    (hs : Quiet s) : ∃ u, drive [.word w, .waitIdle] s = .next u ∧ Quiet u ∧ SameData s u ∧ SameErrors s u ∧
      u.brtSet = s.brtSet ∧ u.faultRecord = s.faultRecord ∧
      u.trace = s.trace ++ updateEvents (fun k => s.drawAt k) s.frame s.brightness len pos := by
  obtain ⟨hq, hp, hi, -⟩ := hs
  have hword := (driveOp_hostWord hw hq).trans (exec_setseg s hlen pos)
  have hreleased := performs_update_released s s.frame s.brightness len pos
  have htrace := performs_update_trace s s.frame s.brightness pos hlen
  generalize expandProgram (updateProgram s.frame s.brightness len pos) = q at hword hreleased htrace
  obtain ⟨-, hprog, hin, hbr, hframe, hill, hbusy, hbrt, hrec⟩ := performs_frame q s
  exact ⟨(performs q s).setUq [], by rw [drive_cons hword, drive_cons (driveOp_waitIdle q hp hi)]; rfl,
    ⟨rfl, hprog.trans hp, hin.trans hi, hreleased⟩, ⟨hbr, hframe⟩, ⟨hill, hbusy⟩, hbrt, hrec, htrace⟩

/-- FRAME written whole, as LDSLOTs one after the other leave it. -/
def State.setFrame (frame : Vector Byte 4) (s : State) : State := { s with frame := frame }

@[simp] theorem State.setFrame_frame (frame : Vector Byte 4) : (s.setFrame frame).frame = frame := rfl

/-- Slot `i` written and `rest` behind it is slot `i` on replaced by both. -/
theorem toList_set_take_drop (v : Vector Byte 4) {i : Nat} (hi : i < 4) (m : Byte) (rest : List Byte) :
    (v.set i m).toList.take (i + 1) ++ rest ++ (v.set i m).toList.drop (i + 1 + rest.length) =
      v.toList.take i ++ m :: rest ++ v.toList.drop (i + (m :: rest).length) := by
  have hlen : i < (v.toList.set i m).length := by simpa using hi
  rw [Vector.toList_set, List.drop_set_of_lt (by omega), List.take_succ_eq_append_getElem hlen]
  simp [List.take_set_of_le, Nat.add_assoc, Nat.add_comm 1]

/-- The LDSLOTs from slot `i` on write the masks and leave the slots before and behind (43_commands.md R108). -/
theorem drive_loadSlots (masks : List Byte) (i : Nat) (s : State) (h : i + masks.length ≤ 4) (hq : s.uq = []) :
    ∃ ops frame, loadSlots i masks = some ops ∧ drive ops s = .next (s.setFrame frame) ∧
      frame.toList = s.frame.toList.take i ++ masks ++ s.frame.toList.drop (i + masks.length) := by
  induction masks generalizing i s with
  | nil => exact ⟨[], s.frame, rfl, rfl, by simp⟩
  | cons m rest ih =>
    rw [List.length_cons] at h
    obtain ⟨slot, rfl, hslot⟩ | ⟨hge, -⟩ := immediate_cases 2 i
    · obtain ⟨ops, frame, hops, hdrive, hframe⟩ := ih (slot.toNat + 1) (s.setSlot slot m) (by omega) hq
      obtain ⟨w, hw⟩ : ∃ w, hostWord (.ldslot slot m) = some w := ⟨_, hostWord_ldslot slot m⟩
      refine ⟨.word w :: ops, frame, by simp [loadSlots, hslot, hw, hops], ?_, ?_⟩
      · rw [drive_cons (driveOp_hostWord hw hq), hdrive]; rfl
      · rw [hframe]
        exact toList_set_take_drop s.frame slot.isLt m rest
    · omega

/-- Up to four masks: WAITIDLE, the loads, SETSEG of as many slots, WAITIDLE (30_encoding.md R81). -/
theorem showSome_eq {masks : List Byte} {pos : Byte} {loads : List HostOp} (hlen : masks.length ≤ 4)
    (hloads : loadSlots 0 masks = some loads) : ∃ w, hostWord (.setseg (BitVec.ofNat 3 masks.length) pos) = some w ∧
      showSome pos masks = some (.waitIdle :: loads ++ [.word w, .waitIdle]) := by
  obtain ⟨len, hl, himm⟩ | ⟨hge, -⟩ := immediate_cases 3 masks.length
  · have hw := (hostWord_setseg len pos).trans (if_pos (hl ▸ hlen))
    refine ⟨_, by rwa [← hl, BitVec.ofNat_toNat, BitVec.setWidth_eq], ?_⟩
    simp [showSome, himm, hloads, hw]
  · omega

/-- More than four masks: the length is no immediate of 3 bits, or SETSEG has no word for it (R79). -/
theorem showSome_refused {masks : List Byte} (pos : Byte) (h : 4 < masks.length) : showSome pos masks = none := by
  obtain ⟨len, hlen, himm⟩ | ⟨-, himm⟩ := immediate_cases 3 masks.length
  · have hw : hostWord (.setseg len pos) = none := by rw [hostWord_setseg, if_neg (by omega)]
    simp [showSome, himm, hw]
  · simp [showSome, himm]

end Sys2Proof.Machine

/-! ## The statements -/

namespace Sys2Proof

open Machine

/-- Settles O58: the loads write the masks into FRAME, and SETSEG shows it; a longer list has no SETSEG word. -/
theorem shownDisplaysItsMasks : Obligations.ShownDisplaysItsMasks := by
  unfold Obligations.ShownDisplaysItsMasks
  refine ⟨fun masks pos s h hs => ?_, fun masks pos h => showSome_refused pos h⟩
  have hidle : driveOp .waitIdle s = .next s := by simp [driveOp, hs.1]
  obtain ⟨loads, frame, hloads, hload, hframe⟩ := drive_loadSlots masks 0 s (by omega) hs.1
  obtain ⟨w, hw, hshow⟩ := showSome_eq (pos := pos) h hloads
  have hlen : (BitVec.ofNat 3 masks.length).toNat ≤ 4 := (Nat.mod_le _ _).trans h
  obtain ⟨u, hupdate, hquiet, ⟨hbr, hfr⟩, herr, hbrt, hrec, htrace⟩ := drive_setseg (s := s.setFrame frame) hlen hw hs
  refine ⟨_, u, hshow, ?_, hquiet, ?_, hbr, herr, hbrt, hrec, hfr ▸ htrace⟩
  · rw [List.cons_append, drive_cons hidle, drive_append hload, hupdate]
  · rw [hfr]; simpa using hframe

/-- Settles O52: SHOW is SHOWN of four masks, which leave no slot as it was. -/
theorem showDisplaysFourMasks : Obligations.ShowDisplaysFourMasks := by
  unfold Obligations.ShowDisplaysFourMasks
  intro masks pos s hs
  obtain ⟨ops, u, hops, hdrive, hquiet, hframe, hbr, herr, hbrt, hrec, htrace⟩ :=
    shownDisplaysItsMasks.1 masks.toList pos s (by simp) hs
  obtain rfl : u.frame = masks := Vector.toList_inj.mp (by simpa [List.drop_of_length_le] using hframe)
  exact ⟨ops, u, hops, hdrive, hquiet, rfl, hbr, herr, hbrt, hrec, by simpa using htrace⟩

end Sys2Proof
end

section
/-! PROOFS. The sequencer step and the line micro-operations (41_line_ops.md). -/

/-! ## A direction write, a draw and a SAMPLE, as the line micro-ops use them -/

namespace Sys2Proof.Machine

variable {s t : State}

@[simp] theorem State.dir_setUq (s : State) (l : Line) (q : List MicroOp) : (s.setUq q).dir l = s.dir l := by cases l <;> rfl

/-- Writing the direction that a line has already changes nothing (41_line_ops.md R88). -/
theorem State.setDir_self {l : Line} {d : Dir} (h : s.dir l = d) : s.setDir l d = s := by
  subst h; cases l <;> rfl

/-- Driving a driven line only emits its event (R86, R88). -/
theorem State.driveLow_of_out {l : Line} (h : s.dir l = .OUT) : s.driveLow l = s.emit (.drive l) :=
  congrArg (State.emit (.drive l)) (State.setDir_self h)

/-- Releasing a released line only emits its event (R86, R88). -/
theorem State.release_of_in {l : Line} (h : s.dir l = .IN) : s.release l = s.emit (.release l) :=
  congrArg (State.emit (.release l)) (State.setDir_self h)

/-- A direction write with its event, as in `driveLow` and `release`, leaves everything but the directions and the trace. -/
theorem State.setDir_emit_frame (s : State) (l : Line) (d : Dir) (e : Event) :
    ((s.setDir l d).emit e).status = s.status ∧ ((s.setDir l d).emit e).faultRecord = s.faultRecord ∧
      SameData s ((s.setDir l d).emit e) ∧ SameFlags s ((s.setDir l d).emit e) ∧ SameQueue s ((s.setDir l d).emit e) ∧
      SameOutside s ((s.setDir l d).emit e) := by
  cases l <;> exact ⟨rfl, rfl, ⟨rfl, rfl⟩, ⟨⟨rfl, rfl⟩, ⟨rfl, rfl⟩, rfl⟩, ⟨rfl, rfl⟩, rfl, rfl, rfl⟩

@[simp] theorem State.emit_drawAt (s : State) (e : Event) (k : Nat) : (s.emit e).drawAt k = s.drawAt k := rfl

@[simp] theorem State.recordSample_drawAt (s : State) (b : Bool) (k : Nat) : (s.recordSample b).drawAt k = s.drawAt k := rfl

/-- The event of a SAMPLE carries the value that it leaves in ACK_LAST (R92). -/
theorem State.sampleDio_trace (s : State) : s.sampleDio.trace = s.trace ++ [.sample s.sampleDio.ackLast] := by
  cases h : s.dirDio with
  | IN => simp [State.sampleDio_in h]
  | OUT => simp [State.sampleDio_out h]

/-! ## What keeps a line driven -/

/-- The instructions that can change the direction of a line, for either line (10_state.md R23, R24). -/
theorem dir_changed_cases {l : Line} {i : Instr} (h : exec i s = .next t) (hne : t.dir l ≠ s.dir l) :
    i = .drvlo l ∨ i = .rel l ∨ i = .drvloIfAck := by
  obtain ⟨hclk, hdio⟩ := onlyLineOpsChangeDirections i s t h
  cases l with
  | clk => exact (hclk hne).imp_right .inl
  | dio => exact hdio hne

/-- Only REL L releases a driven line L (41_line_ops.md R89). -/
theorem dir_out_of_exec {l : Line} {i : Instr} (hd : s.dir l = .OUT) (hi : i ≠ .rel l) (h : exec i s = .next t) :
    t.dir l = .OUT := by
  by_contra hout
  obtain rfl | rfl | rfl := dir_changed_cases h (hd ▸ hout)
  · cases h; simp [State.dir_driveLow] at hout
  · exact hi rfl
  · obtain ⟨-, rfl⟩ | ⟨-, rfl⟩ := exec_drvloIfAck_cases h
    · simp [State.dir_driveLow, hd] at hout
    · exact hout hd

end Sys2Proof.Machine

/-! ## The statements -/

namespace Sys2Proof

open Machine

/-- Settles O49, by the micro-op at the head: each emits its event, and a direction write that finds its direction does nothing
else. -/
theorem sequencerStepAdvancesByOneAndEmitsOneEvent : Obligations.SequencerStepAdvancesByOneAndEmitsOneEvent := by
  unfold Obligations.SequencerStepAdvancesByOneAndEmitsOneEvent
  intro s u rest hp hi hq
  refine ⟨_, step_uq hp hi hq, rfl, ?_, ?_⟩
  · cases u with
    | drvlo l => exact s.trace_driveLow l
    | rel l => exact s.trace_release l
    | wait => exact s.hold_trace
    | sample => exact s.sampleDio_trace
    | drvloIfAck => cases ha : s.ackLast <;> simp [ha]
  · rintro l (⟨rfl, hd⟩ | ⟨rfl, hd⟩) l'
    · simp [perform, State.driveLow_of_out hd]
    · simp [perform, State.release_of_in hd]

/-- Settles O9: with no input left or with an idle one, the step is the sequencer's turn. -/
theorem sequencerStepRunsTheHead : Obligations.SequencerStepRunsTheHead := by
  unfold Obligations.SequencerStepRunsTheHead
  intro s u rest hp hq
  constructor
  · intro hi
    exact (step_quiet hi).trans (sequence_uq hp hq)
  · intro is hi
    exact (step_idleInput hi).trans (sequence_uq (s := s.setInputs is) hp hq)

/-- Settles O12: the step is the sequencer's turn, which finds nothing to do. -/
theorem idleStepChangesNothing : Obligations.IdleStepChangesNothing := by
  unfold Obligations.IdleStepChangesNothing
  exact fun s hq hp hi => (step_quiet hi).trans (sequence_idle hp hq)

/-- Settles O23: `dir_out_of_exec` says what keeps the line driven; a line driven already keeps everything but the trace. -/
theorem drvloDrivesTheLineLow : Obligations.DrvloDrivesTheLineLow := by
  unfold Obligations.DrvloDrivesTheLineLow
  refine ⟨rfl, rfl, fun l i s t hd hi h => dir_out_of_exec hd hi h, fun l s => ?_⟩
  have hout : (s.driveLow l).dir l = .OUT := by simp [State.dir_driveLow]
  refine ⟨s.driveLow l, exec_drvlo s l, hout, ?other, s.trace_driveLow l, ?level, ?already, s.setDir_emit_frame l .OUT (.drive l)⟩
  case other => intro l' hne; simp [State.dir_driveLow, hne]
  case level => simp [hout, level]
  case already => intro hd; rw [State.driveLow_of_out hd]; rfl

/-- Settles O24: the released line shows what the outside pulls; a line released already keeps everything but the trace. -/
theorem relReleasesTheLine : Obligations.RelReleasesTheLine := by
  unfold Obligations.RelReleasesTheLine
  refine ⟨rfl, rfl, fun l s => ?_⟩
  have hin : (s.release l).dir l = .IN := by simp [State.dir_release]
  refine ⟨s.release l, exec_rel s l, hin, ?other, s.trace_release l, ?level, ?already, s.setDir_emit_frame l .IN (.release l)⟩
  case other => intro l' hne; simp [State.dir_release, hne]
  case level => simp [hin, level]
  case already => intro hd; rw [State.release_of_in hd]; rfl

/-- Settles O25: `hold` is the event alone. -/
theorem waitChangesNoRegister : Obligations.WaitChangesNoRegister := by
  unfold Obligations.WaitChangesNoRegister
  exact ⟨rfl, fun s => ⟨s.hold, exec_wait s, s.hold_trace, rfl⟩⟩

/-- Settles O26, by the direction of DIO: released it gives the next draw, driven it gives 0. -/
theorem sampleRecordsTheLevelOfDio : Obligations.SampleRecordsTheLevelOfDio := by
  unfold Obligations.SampleRecordsTheLevelOfDio
  refine ⟨rfl, fun s => ?_⟩
  obtain ⟨hclk, hdio, hbrightness, hframe, hillegal, hbusy, hbrt, huq, hfault, hprog, hinputs⟩ := s.sampleDio_frame
  refine ⟨s.sampleDio, _, exec_sample s, rfl, ?nack, s.sampleDio_trace, ?released, ?driven, ⟨hclk, hdio⟩, ⟨hbrightness, hframe⟩,
    ⟨hillegal, hbusy⟩, hbrt, ⟨huq, hprog⟩, hinputs, hfault⟩
  case nack => simp [State.sampleDio_nackSeen]
  case released => intro h; simp [State.sampleDio_in h]
  case driven => intro h; simp [State.sampleDio_out h]

/-- Settles O27, by ACK_LAST: acknowledged it is `driveLow` of DIO, else nothing. -/
theorem drvloIfAckDrivesOnlyIfAcked : Obligations.DrvloIfAckDrivesOnlyIfAcked := by
  unfold Obligations.DrvloIfAckDrivesOnlyIfAcked
  refine ⟨rfl, fun s => ?_⟩
  cases ha : s.ackLast with
  | false =>
    exact ⟨s.driveLow .dio, exec_drvloIfAck_acked ha, fun _ => ⟨rfl, rfl⟩, by simp, rfl,
      s.setDir_emit_frame .dio .OUT (.drive .dio)⟩
  | true =>
    exact ⟨s, exec_drvloIfAck_nacked ha, by simp, fun _ => rfl, rfl, rfl, rfl, ⟨rfl, rfl⟩, ⟨⟨rfl, rfl⟩, ⟨rfl, rfl⟩, rfl⟩,
      ⟨rfl, rfl⟩, rfl, rfl, rfl⟩

end Sys2Proof
end

section
/-! PROOFS. The transport operations START, STOP and WRB (42_transport.md). -/

/-! ## The word and the queue of a byte write, and a queue placed in an idle block and run -/

namespace Sys2Proof.Machine

/-- The micro-word of WRB: its operation code 0xA above the byte (30_encoding.md R77). -/
theorem encode_wrb (b : Byte) : encode (.wrb b) = .uop12 (0xA00#12 ||| b.zeroExtend 12) := rfl

theorem count_wait_bitOps (x : Bool) : (bitOps x).count .wait = 3 := by
  cases x <;> rfl

/-- A byte write is 58 micro-ops, whatever the byte (42_transport.md R98). -/
theorem length_wrbOps (b : Byte) : (wrbOps b).length = 58 := rfl

/-- 28 of them hold: three in each of the eight bit groups and four in the ACK tail (R98, R99, R100). -/
theorem count_wait_wrbOps (b : Byte) : (wrbOps b).count .wait = 28 := by
  have htail : ackTail.count .wait = 4 := rfl
  simp only [wrbOps, List.count_append, count_wait_bitOps, htail]

/-- The i-th bit group of a byte write is that of bit i: least significant bit first (R98). -/
theorem wrbOps_bitGroup (b : Byte) {i : Nat} (hi : i < 8) : ((wrbOps b).drop (6 * i)).take 6 = bitOps (bitOf b i) := by
  match i, hi with
  | 0, _ | 1, _ | 2, _ | 3, _ | 4, _ | 5, _ | 6, _ | 7, _ => rfl

/-- The eight bit groups are followed by the ACK tail (R98). -/
theorem wrbOps_ackTail (b : Byte) : (wrbOps b).drop 48 = ackTail := rfl

@[simp] theorem State.byteSent_nackSeen (b : Byte) (s : State) : (s.byteSent b).nackSeen = (s.nackSeen || s.drawAt 0) := rfl
@[simp] theorem State.byteSent_dirDio (b : Byte) (s : State) :
    (s.byteSent b).dirDio = if s.drawAt 0 then .IN else .OUT := rfl

/-- A queue placed in an idle block and run to its end, with nothing from outside, is performed. -/
theorem runSteps_enqueue {s : State} (q : List MicroOp) (hq : s.uq = []) (hp : s.prog = []) (hi : s.inputs = []) :
    runSteps q.length (s.enqueue q) = .next (performs q s) := by
  have hplaced : s.enqueue q = s.setUq q := by simp [State.enqueue, State.setUq, hq]
  have hend : (performs q s).uq = [] := (performs_frame q s).1.trans hq
  rw [hplaced, runSteps_queue (s := s.setUq q) q [] hp hi (List.append_nil q).symm, performs_setUq, State.setUq_setUq,
    State.setUq_self hend]

end Sys2Proof.Machine

/-! ## The statements -/

namespace Sys2Proof

open Machine

/-- Settles O28: the meanings of START and STOP, with their expansions written out. -/
theorem startAndStopQueueTheirExpansions : Obligations.StartAndStopQueueTheirExpansions := by
  unfold Obligations.StartAndStopQueueTheirExpansions
  exact ⟨rfl, rfl, fun s => ⟨exec_start s, exec_stop s⟩⟩

/-- Settles O29: the queue of WRB is `wrbOps b`, eight bit groups and the ACK tail. -/
theorem wrbQueuesBitsLsbFirstThenAckTail : Obligations.WrbQueuesBitsLsbFirstThenAckTail := by
  unfold Obligations.WrbQueuesBitsLsbFirstThenAckTail
  intro b s
  exact ⟨encode_wrb b, wrbOps b, exec_wrb s b, length_wrbOps b, count_wait_wrbOps b, fun _ hi => wrbOps_bitGroup b hi,
    wrbOps_ackTail b⟩

/-- Settles O30: the run performs `startOps`, which leaves CLK as it was, released. -/
theorem startRunFromIdleDrivesDioLow : Obligations.StartRunFromIdleDrivesDioLow := by
  unfold Obligations.StartRunFromIdleDrivesDioLow
  rintro s ⟨hq, hp, hi, hclk, -⟩
  have hrun := runSteps_enqueue startOps hq hp hi
  rw [performs_startOps] at hrun
  exact ⟨_, _, exec_start s, hrun, hq, hclk, rfl, rfl, ⟨rfl, rfl⟩, ⟨⟨rfl, rfl⟩, ⟨rfl, rfl⟩, rfl⟩⟩

/-- Settles O31: the run performs `stopOps`, which releases both lines from any directions. -/
theorem stopRunReleasesBothLines : Obligations.StopRunReleasesBothLines := by
  unfold Obligations.StopRunReleasesBothLines
  intro s hq hp hi _
  have hrun := runSteps_enqueue stopOps hq hp hi
  rw [performs_stopOps] at hrun
  exact ⟨_, _, exec_stop s, hrun, ⟨hq, hp, hi, rfl, rfl⟩, rfl, ⟨rfl, rfl⟩, ⟨⟨rfl, rfl⟩, ⟨rfl, rfl⟩, rfl⟩⟩

/-- Settles O32: the run performs `wrbOps b`, which leaves the state `byteSent`; DIO by the value drawn. -/
theorem wrbRunSendsTheByteAndSamplesTheAck : Obligations.WrbRunSendsTheByteAndSamplesTheAck := by
  unfold Obligations.WrbRunSendsTheByteAndSamplesTheAck
  intro b s hq hp hi
  have hrun := runSteps_enqueue (wrbOps b) hq hp hi
  rw [length_wrbOps, performs_wrbOps] at hrun
  refine ⟨_, _, exec_wrb s b, hrun, hq, rfl, ?nack, rfl, ?dio, s.byteSent_trace b, s.byteSent_drawAt b, ⟨rfl, rfl⟩, ⟨rfl, rfl⟩,
    rfl, rfl⟩
  case nack => simp
  case dio => cases h : s.drawAt 0 <;> simp [h]

end Sys2Proof
end

section
/-! PROOFS. The rules that hold through any run: the queue's discipline, the bus idle, acknowledges ignored (43_commands.md
section 3). -/

/-! ## A step and a run, from both sides -/

namespace Sys2Proof.Machine

variable {s t : State}

@[simp] theorem State.inputTaken_dirClk (s : State) : s.inputTaken.dirClk = s.dirClk := rfl
@[simp] theorem State.inputTaken_dirDio (s : State) : s.inputTaken.dirDio = s.dirDio := rfl

theorem step_of_presented {w : CmdWord} (hin : s.inputs.head? = some (.present w)) : step s = accept w s.inputTaken := by
  obtain ⟨rest, hi⟩ := List.head?_eq_some_iff.mp hin
  rw [step_present hi, State.inputTaken, hi, List.tail_cons]

theorem step_of_turn (hin : s.inputs.head?.getD .idle = .idle) : step s = sequence s.inputTaken := by
  cases hi : s.inputs with
  | nil =>
    have hs : s.inputTaken = s := by cases s; cases hi; rfl
    rw [step_quiet hi, hs]
  | cons i rest =>
    obtain rfl : i = .idle := by simpa [hi] using hin
    rw [step_idleInput hi, State.inputTaken, hi, List.tail_cons]

/-- The converse of `stepTo_of_step`: what `StepTo` lists, the step does. -/
theorem step_of_stepTo (h : StepTo s t) : step s = .next t := by
  cases h with
  | reset hin =>
    obtain ⟨rest, hi⟩ := List.head?_eq_some_iff.mp hin
    rw [step_resetInput hi, State.inputTaken, hi, List.tail_cons]
  | droppedBusy w hin hq => exact (step_of_presented hin).trans (accept_busy w hq)
  | droppedIllegal w e hin hq hd => exact (step_of_presented hin).trans (accept_illegal hq hd)
  | setbrt w level hin hq hd => exact (step_of_presented hin).trans (accept_legal (s := s.inputTaken) hq hd)
  | ldslot w slot mask hin hq hd => exact (step_of_presented hin).trans (accept_legal (s := s.inputTaken) hq hd)
  | setseg w len pos hin hq hd hlen =>
    exact (step_of_presented hin).trans ((accept_legal (s := s.inputTaken) hq hd).trans (exec_setseg _ hlen pos))
  | clrst hin hq => exact (step_of_presented hin).trans (accept_legal (s := s.inputTaken) (i := .clrst) hq rfl)
  | transport op rest hin hp =>
    exact (step_of_turn hin).trans ((sequence_prog (s := s.inputTaken) hp).trans (exec_transportOp _ op))
  | microOp u rest hin hp hq =>
    rw [step_of_turn hin, sequence_uq (s := s.inputTaken) hp hq, exec_microOp, perform_setUq]
  | idle hin hp hq => exact (step_of_turn hin).trans (sequence_idle (s := s.inputTaken) hp hq)

/-- A run of one step more than `k` is a step and a run of `k`. -/
theorem runSteps_succ_next {k : Nat} (h : runSteps (k + 1) s = .next t) : ∃ v, step s = .next v ∧ runSteps k v = .next t := by
  cases hv : step s with
  | next v => exact ⟨v, rfl, by rwa [runSteps_succ k hv] at h⟩
  | fault r => cases r
  | refused r => simp [runSteps, hv] at h

/-- What every step keeps holds at the end of every run from a state where it holds. -/
theorem runSteps_keeps {P : State → Prop} (hstep : ∀ s t, P s → step s = .next t → P t) {k : Nat} {s t : State} (hs : P s)
    (h : runSteps k s = .next t) : P t := by
  induction k generalizing s with
  | zero => cases h; exact hs
  | succ k ih =>
    obtain ⟨v, hv, hrun⟩ := runSteps_succ_next h
    exact ih (hstep s v hs hv) hrun

/-! ## What an acknowledge can reach -/

/-- The state with everything that an acknowledge can reach put to one fixed value (42_transport.md R101). -/
def State.butAcks (s : State) : State :=
  { s with dirDio := .IN, ackLast := true, nackSeen := false, trace := [], draws := [], drawCount := 0 }

theorem sameButAcks_iff : SameButAcks s t ↔ t.butAcks = s.butAcks := by
  simp only [SameButAcks, SameData, SameErrors, SameQueue, State.butAcks, State.mk.injEq]
  tauto

/-- An update whose result but for the acknowledges comes from the state but for them keeps two such states alike. -/
theorem sameButAcks_map {f : State → State} (hf : ∀ s, (f s).butAcks = (f s.butAcks).butAcks) (h : SameButAcks s t) :
    SameButAcks (f s) (f t) := by
  rw [sameButAcks_iff] at h ⊢
  rw [hf t, h, ← hf s]

theorem perform_butAcks (u : MicroOp) (s : State) : (perform u s).butAcks = (perform u s.butAcks).butAcks := by
  cases u with
  | drvlo l => cases l <;> rfl
  | rel l => cases l <;> rfl
  | wait => rfl
  | sample => cases h : s.dirDio <;> simp only [perform, State.sampleDio, h] <;> rfl
  | drvloIfAck => cases h : s.ackLast <;> simp only [perform, h] <;> rfl

end Sys2Proof.Machine

/-! ## The discipline of a queue -/

namespace Sys2Proof

open Machine

/-- A queue that is in order when nothing is known of DIO is in order for each of its directions. -/
theorem QueueOk.of_unknown {q : List MicroOp} {clk : Dir} (h : QueueOk clk none q) (d : Dir) : QueueOk clk (some d) q := by
  induction q generalizing clk with
  | nil => obtain ⟨-, hdio⟩ := h; cases hdio
  | cons u q ih =>
    cases u with
    | drvlo l => cases l with
      | clk => exact ih h
      | dio => exact h
    | rel l => cases l with
      | clk => exact ih h
      | dio => exact h
    | wait => exact ih h
    | sample => obtain ⟨-, hdio, -⟩ := h; cases hdio
    | drvloIfAck =>
      obtain ⟨hclk, hq⟩ := h
      cases d with
      | IN => exact ⟨hclk, hq⟩
      | OUT => exact ⟨hclk, ih hq⟩

/-- Performing the head of a queue leaves the rest of it in order. -/
theorem QueueOk.perform {s : State} {u : MicroOp} {q : List MicroOp} (h : QueueOk s.dirClk (some s.dirDio) (u :: q)) :
    QueueOk (perform u s).dirClk (some (perform u s).dirDio) q := by
  cases u with
  | drvlo l => cases l <;> exact h
  | rel l => cases l <;> exact h
  | wait => exact h
  | sample =>
    obtain ⟨-, -, hq⟩ := h
    obtain ⟨hclk, hdio, -⟩ := s.sampleDio_frame
    rwa [Machine.perform, hclk, hdio]
  | drvloIfAck =>
    obtain ⟨-, hq⟩ := h
    cases hd : s.dirDio with
    | OUT => cases ha : s.ackLast <;> simpa [ha, hd] using hq
    | IN =>
      have hany := QueueOk.of_unknown (by simpa [hd] using hq)
      cases ha : s.ackLast <;> simpa [ha, hd] using hany _

section
variable {q : List MicroOp} (clk : Dir) (dio : Option Dir)

theorem queueOk_bitOps (h : ∀ d, QueueOk .IN (some d) q) (x : Bool) : QueueOk clk dio (bitOps x ++ q) := by
  cases x with
  | false => exact h .OUT
  | true => exact h .IN

/-- The ACK tail samples a released DIO, and DIO is unknown after it (42_transport.md R100). -/
theorem queueOk_ackTail (h : QueueOk .OUT none q) : QueueOk clk dio (ackTail ++ q) :=
  ⟨rfl, rfl, rfl, h⟩

/-- A byte write is in order from any directions. -/
theorem queueOk_wrbOps (h : QueueOk .OUT none q) (b : Byte) : QueueOk clk dio (wrbOps b ++ q) := by
  simp only [wrbOps, List.append_assoc]
  iterate 8 refine queueOk_bitOps _ _ (fun _ => ?_) _
  exact queueOk_ackTail _ _ h

theorem queueOk_wrbs (h : ∀ clk dio, QueueOk clk dio q) (bytes : List Byte) : QueueOk clk dio (bytes.flatMap wrbOps ++ q) := by
  induction bytes generalizing clk dio with
  | nil => exact h clk dio
  | cons b bytes ih => simpa using queueOk_wrbOps clk dio (ih .OUT none) b

/-- A transaction is in order from any directions, and releases both lines (R95). -/
theorem queueOk_transaction (h : QueueOk .IN (some .IN) q) (bytes : List Byte) :
    QueueOk clk dio (expandProgram (transaction bytes) ++ q) := by
  have hstop : ∀ clk dio, QueueOk clk dio (stopOps ++ q) := fun _ _ => h
  simp only [expandProgram_transaction, List.append_assoc]
  exact queueOk_wrbs clk (some .OUT) hstop bytes

/-- The queue of an update is in order (43_commands.md R109, R115). -/
theorem queueOk_update (frame : Vector Byte 4) (brightness : BitVec 4) (len : BitVec 3) (pos : Byte) :
    QueueOk clk dio (expandProgram (updateProgram frame brightness len pos)) := by
  have hend : QueueOk .IN (some .IN) [] := ⟨rfl, rfl⟩
  have hlast := queueOk_transaction .IN (some .IN) hend [controlByte brightness]
  have hdata := queueOk_transaction .IN (some .IN) hlast (addressByte pos :: dataBytes frame len)
  simpa [expandProgram, updateProgram] using queueOk_transaction clk dio hdata [preambleByte]

end

/-! ## Acknowledges are ignored -/

/-- What the step of one machine does, the step of the other does too: no test of a step reads what an acknowledge can reach. -/
theorem SameButAcks.stepTo {s t s' : State} (h : SameButAcks s t) (hs : StepTo s s') :
    ∃ t', StepTo t t' ∧ SameButAcks s' t' := by
  have htaken : SameButAcks s.inputTaken t.inputTaken := sameButAcks_map (fun _ => rfl) h
  obtain ⟨-, ⟨hbrightness, hframe⟩, -, -, ⟨huq, hprog⟩, hinputs, -⟩ := h
  cases hs with
  | reset hin => exact ⟨_, .reset (hinputs ▸ hin), sameButAcks_map (fun _ => rfl) htaken⟩
  | droppedBusy w hin hq => exact ⟨_, .droppedBusy w (hinputs ▸ hin) (huq ▸ hq), sameButAcks_map (fun _ => rfl) htaken⟩
  | droppedIllegal w e hin hq hd =>
    exact ⟨_, .droppedIllegal w e (hinputs ▸ hin) (huq ▸ hq) hd, sameButAcks_map (fun _ => rfl) htaken⟩
  | setbrt w level hin hq hd =>
    exact ⟨_, .setbrt w level (hinputs ▸ hin) (huq ▸ hq) hd,
      sameButAcks_map (f := fun s => (s.setBrightness (maskBrightness level)).markBrtSet) (fun _ => rfl) htaken⟩
  | ldslot w slot mask hin hq hd =>
    exact ⟨_, .ldslot w slot mask (hinputs ▸ hin) (huq ▸ hq) hd, sameButAcks_map (fun _ => rfl) htaken⟩
  | setseg w len pos hin hq hd hlen =>
    refine ⟨_, .setseg w len pos (hinputs ▸ hin) (huq ▸ hq) hd hlen, ?_⟩
    rw [hframe, hbrightness]
    exact sameButAcks_map (fun _ => rfl) htaken
  | clrst hin hq => exact ⟨_, .clrst (hinputs ▸ hin) (huq ▸ hq), sameButAcks_map (fun _ => rfl) htaken⟩
  | transport op rest hin hp =>
    exact ⟨_, .transport op rest (hinputs ▸ hin) (hprog ▸ hp),
      sameButAcks_map (f := fun s => (s.setProg rest).enqueue op.expand) (fun _ => rfl) htaken⟩
  | microOp u rest hin hp hq =>
    exact ⟨_, .microOp u rest (hinputs ▸ hin) (hprog ▸ hp) (huq ▸ hq),
      sameButAcks_map (fun _ => rfl) (sameButAcks_map (perform_butAcks u) htaken)⟩
  | idle hin hp hq => exact ⟨_, .idle (hinputs ▸ hin) (hprog ▸ hp) (huq ▸ hq), htaken⟩

/-! ## The statements -/

/-- Settles O40, by the cases of a step: SETSEG loads an update, a sequencer step performs the head, and every other step keeps the
queue and the directions or empties and releases them. -/
theorem everyStepKeepsTheInvariant : Obligations.EveryStepKeepsTheInvariant := by
  unfold Obligations.EveryStepKeepsTheInvariant
  rintro s t ⟨hp, hqueue⟩ hstep
  cases stepTo_of_step hstep with
  | reset => exact ⟨rfl, rfl, rfl⟩
  | setseg w len pos => exact ⟨hp, queueOk_update _ _ _ _ _ _⟩
  | transport op rest hin hp' => simp [hp] at hp'
  | microOp u rest _ _ hq =>
    obtain ⟨-, hprog, -⟩ := perform_frame u s.inputTaken
    exact ⟨hprog.trans hp, QueueOk.perform (s := s.inputTaken) (hq ▸ hqueue)⟩
  | droppedBusy | droppedIllegal => exact ⟨by simpa using hp, by simpa using hqueue⟩
  | setbrt | ldslot | clrst | idle => exact ⟨hp, hqueue⟩

/-- Settles O42: the invariant holds through the run, and its discipline says both clauses at the queue's end and at a SAMPLE. -/
theorem linesAreReleasedWheneverNotBusy : Obligations.LinesAreReleasedWheneverNotBusy := by
  unfold Obligations.LinesAreReleasedWheneverNotBusy
  refine ⟨fun is ds => ⟨rfl, rfl, rfl⟩, fun k s t hs hrun => ?_⟩
  obtain ⟨-, hqueue⟩ := runSteps_keeps everyStepKeepsTheInvariant hs hrun
  constructor
  · intro hidle
    rw [State.busy_eq_false_iff.mp hidle] at hqueue
    obtain ⟨hclk, hdio⟩ := hqueue
    exact ⟨hclk, Option.some.inj hdio⟩
  · intro rest hq
    rw [hq] at hqueue
    obtain ⟨hclk, hdio, -⟩ := hqueue
    exact ⟨Option.some.inj hdio, hclk⟩

/-- Settles O43, by induction on the run: each step of the one machine is a step of the other, to states alike again. -/
theorem acknowledgesNeverChangeTheSequence : Obligations.AcknowledgesNeverChangeTheSequence := by
  unfold Obligations.AcknowledgesNeverChangeTheSequence
  intro k
  induction k with
  | zero => intro s t s' hst h; cases h; exact ⟨t, rfl, hst⟩
  | succ k ih =>
    intro s t s' hst h
    obtain ⟨v, hv, hrun⟩ := runSteps_succ_next h
    obtain ⟨w, hw, hvw⟩ := hst.stepTo (stepTo_of_step hv)
    rw [runSteps_succ k (step_of_stepTo hw)]
    exact ih v w s' hvw hrun

end Sys2Proof
end

section
/-! PROOFS. The accept step and the four host commands (43_commands.md sections 1 and 2). -/

/-! ## What an accept step does -/

namespace Sys2Proof.Machine

variable {s t : State} {w : CmdWord}

/-- What an accept step can do (43_commands.md R104): the word is dropped while busy, dropped as illegal, or run. -/
theorem accept_cases (h : accept w s = .next t) :
    (s.uq ≠ [] ∧ t = s.raiseCmdError .busy w) ∨
      (s.uq = [] ∧ (∃ e, decodeCmd w = .error e) ∧ t = s.raiseCmdError .illegal w) ∨
      (s.uq = [] ∧ ∃ i, decodeCmd w = .ok i ∧ exec i s = .next t) := by
  by_cases hq : s.uq = []
  · cases hd : decodeCmd w with
    | error e => rw [accept_illegal hq hd] at h; cases h; exact .inr (.inl ⟨hq, ⟨e, rfl⟩, rfl⟩)
    | ok i => rw [accept_legal hq hd] at h; exact .inr (.inr ⟨hq, i, rfl, h⟩)
  · rw [accept_busy w hq] at h; cases h; exact .inl ⟨hq, rfl⟩

/-- Running a legal word sets no error flag (R105). -/
theorem exec_command_errors {i : Instr} (hd : decodeCmd w = .ok i) (h : exec i s = .next t) :
    (t.errBusy = true → s.errBusy = true) ∧ (t.errIllegal = true → s.errIllegal = true) := by
  obtain ⟨level, rfl⟩ | ⟨slot, mask, rfl⟩ | ⟨len, pos, hlen, rfl⟩ | ⟨rfl, -⟩ := decodeCmd_ok_cases hd
  · cases h; exact ⟨id, id⟩
  · cases h; exact ⟨id, id⟩
  · rw [exec_setseg s hlen] at h; cases h; exact ⟨id, id⟩
  · cases h; simp

/-! ## The words and the queue of the commands, and STATUS after one -/

/-- STATUS is the byte that has its bits (10_state.md R30). -/
theorem State.status_eq_of_bits {s : State} {x : Byte}
    (h : ∀ i, i < 8 → [s.busy, s.ackLast, s.nackSeen, s.errIllegal, s.errBusy, s.brtSet].getD i false = x.getLsbD i) :
    s.status = x :=
  BitVec.eq_of_getLsbD_eq fun i hi => (s.getLsbD_status i).trans (h i hi)

/-- The word of LDSLOT, put together by OR (30_encoding.md R67). -/
theorem encode_ldslot (slot : BitVec 2) (mask : Byte) :
    encode (.ldslot slot mask) = .cmd16 (0x2000#16 ||| (slot.zeroExtend 16) <<< 8 ||| mask.zeroExtend 16) := by
  have hhigh : (0x08#6 ++ slot).zeroExtend 16 <<< 8 = 0x2000#16 ||| (slot.zeroExtend 16) <<< 8 := by revert slot; decide
  rw [← hhigh, ← BitVec.setWidth_append_eq_shiftLeft_setWidth_or, BitVec.setWidth_eq]; rfl

/-- The word of SETSEG, put together by OR (R68). -/
theorem encode_setseg (len : BitVec 3) (pos : Byte) :
    encode (.setseg len pos) = .cmd16 (0x3000#16 ||| (len.zeroExtend 16) <<< 8 ||| pos.zeroExtend 16) := by
  have hhigh : (0x06#5 ++ len).zeroExtend 16 <<< 8 = 0x3000#16 ||| (len.zeroExtend 16) <<< 8 := by revert len; decide
  rw [← hhigh, ← BitVec.setWidth_append_eq_shiftLeft_setWidth_or, BitVec.setWidth_eq]; rfl

/-- The brightness nibble is the low one (43_commands.md R107). -/
theorem toNat_maskBrightness (level : Byte) : (maskBrightness level).toNat = level.toNat % 16 := by
  have hlow : level.toNat &&& 15 = level.toNat % 16 := Nat.and_two_pow_sub_one_eq_mod level.toNat 4
  simp [maskBrightness, toNat_field, hlow]

theorem length_wrbs (bytes : List Byte) : (bytes.flatMap wrbOps).length = 58 * bytes.length := by
  simp [List.length_flatMap, length_wrbOps, Nat.mul_comm]

theorem length_transaction (bytes : List Byte) : (expandProgram (transaction bytes)).length = 8 + 58 * bytes.length := by
  rw [expandProgram_transaction, List.length_append, List.length_append, length_wrbs]
  simp only [startOps, stopOps, List.length_cons, List.length_nil]
  omega

variable (frame : Vector Byte 4) (brightness : BitVec 4) (pos : Byte)

/-- The queue of an update is its three transactions (43_commands.md R109). -/
theorem expandProgram_update (len : BitVec 3) : expandProgram (updateProgram frame brightness len pos) =
    (updateBytes frame brightness len pos).flatMap fun bytes => expandProgram (transaction bytes) := by
  simp [expandProgram, updateProgram, updateBytes, preambleByte, addressByte, maskPosition, controlByte, dataBytes]

theorem length_dataBytes {len : BitVec 3} (hlen : len.toNat ≤ 4) : (frame.toList.take len.toNat).length = len.toNat :=
  List.length_take_of_le (by simpa using hlen)

/-- An update is `198 + 58·len` micro-ops (R113). -/
theorem length_update {len : BitVec 3} (hlen : len.toNat ≤ 4) :
    (expandProgram (updateProgram frame brightness len pos)).length = 198 + 58 * len.toNat := by
  simp only [expandProgram_update, updateBytes, List.flatMap_cons, List.flatMap_nil, List.length_append, length_transaction,
    List.length_cons, List.length_nil, length_dataBytes frame hlen]
  omega

theorem update_ne_nil {len : BitVec 3} (hlen : len.toNat ≤ 4) : expandProgram (updateProgram frame brightness len pos) ≠ [] :=
  List.ne_nil_of_length_pos (by rw [length_update frame brightness pos hlen]; omega)

end Sys2Proof.Machine

/-! ## The statements -/

namespace Sys2Proof

open Machine

/-- Settles O10: the word presented decodes, and the block is idle. -/
theorem acceptStepRunsTheDecodedCommand : Obligations.AcceptStepRunsTheDecodedCommand := by
  unfold Obligations.AcceptStepRunsTheDecodedCommand
  intro s w is i hin hq hd
  exact (step_present hin).trans (accept_legal (s := s.setInputs is) hq hd)

/-- Settles O13: BUSY is tested first, and raising ERR_BUSY changes nothing else. -/
theorem wordPresentedWhileBusyIsDropped : Obligations.WordPresentedWhileBusyIsDropped := by
  unfold Obligations.WordPresentedWhileBusyIsDropped
  intro s w is hin hq
  exact (step_present hin).trans (accept_busy (s := s.setInputs is) w hq)

/-- Settles O14: the block is idle, the word does not decode, and raising ERR_ILLEGAL changes nothing else. -/
theorem illegalWordPresentedIdleIsDropped : Obligations.IllegalWordPresentedIdleIsDropped := by
  unfold Obligations.IllegalWordPresentedIdleIsDropped
  intro s w is e hin hq hd
  exact (step_present hin).trans (accept_illegal (s := s.setInputs is) hq hd)

/-- Settles O15, by the three things an accept step can do: each drop raises its own flag, and no command raises one. -/
theorem acceptSetsAtMostOneErrorFlag : Obligations.AcceptSetsAtMostOneErrorFlag := by
  unfold Obligations.AcceptSetsAtMostOneErrorFlag
  intro s t w h
  obtain ⟨hq, rfl⟩ | ⟨hq, he, rfl⟩ | ⟨hq, i, hd, hexec⟩ := accept_cases h
  · simp +contextual [hq]
  · simp +contextual [hq, he]
  · obtain ⟨hbusy, hillegal⟩ := exec_command_errors hd hexec
    exact ⟨absurd hq, fun _ ⟨e, he⟩ => by simp [hd] at he, fun h0 h1 => by simp [hbusy h1] at h0,
      fun h0 h1 => by simp [hillegal h1] at h0⟩

/-- Settles O16, by the three things an accept step can do: of the four commands SETSEG alone writes `uq`, and its update is not
empty. -/
theorem onlySetsegMakesTheBlockBusy : Obligations.OnlySetsegMakesTheBlockBusy := by
  unfold Obligations.OnlySetsegMakesTheBlockBusy
  intro s t w hidle h
  rw [State.busy_eq_true_iff]
  obtain ⟨hq, -⟩ | ⟨-, ⟨e, he⟩, rfl⟩ | ⟨-, i, hd, hexec⟩ := accept_cases h
  · exact absurd hidle hq
  · simp [hidle, he]
  · obtain ⟨level, rfl⟩ | ⟨slot, mask, rfl⟩ | ⟨len, pos, hlen, rfl⟩ | ⟨rfl, -⟩ := decodeCmd_ok_cases hd
    · cases hexec; simp [hidle, hd]
    · cases hexec; simp [hidle, hd]
    · rw [exec_setseg s hlen] at hexec
      cases hexec
      simp [hd, update_ne_nil s.frame s.brightness pos hlen]
    · cases hexec; simp [hidle, hd]

/-- Settles O18: the two registers SETBRT writes, and bit 5 of STATUS. -/
theorem setbrtStoresTheLowNibble : Obligations.SetbrtStoresTheLowNibble := by
  unfold Obligations.SetbrtStoresTheLowNibble
  intro level s
  refine ⟨rfl, _, exec_setbrt s level, toNat_maskBrightness level, rfl, ?status, rfl, ⟨rfl, rfl⟩, ⟨rfl, rfl⟩, ⟨rfl, rfl⟩,
    ⟨rfl, rfl⟩, ⟨rfl, rfl⟩, rfl, rfl, rfl⟩
  case status =>
    refine State.status_eq_of_bits fun i hi => ?_
    rw [BitVec.getLsbD_or, State.getLsbD_status]
    interval_cases i <;> simp [State.busy]

/-- Settles O19: a slot write, read at the slot written and at another one. -/
theorem ldslotWritesOneSlot : Obligations.LdslotWritesOneSlot := by
  unfold Obligations.LdslotWritesOneSlot
  intro slot mask s
  refine ⟨encode_ldslot slot mask, _, exec_ldslot s slot mask, ?same, ?other, rfl, rfl, ⟨rfl, rfl⟩, ⟨⟨rfl, rfl⟩, ⟨rfl, rfl⟩, rfl⟩,
    ⟨rfl, rfl⟩, ⟨rfl, rfl⟩, rfl, rfl, rfl⟩
  case same => simp [State.slot_setSlot]
  case other => intro j hj; simp [State.slot_setSlot, hj]

/-- Settles O20: the queue SETSEG loads is `expandProgram_update`'s, not empty, so that bit 0 of STATUS is 1. -/
theorem setsegLoadsThreeTransactions : Obligations.SetsegLoadsThreeTransactions := by
  unfold Obligations.SetsegLoadsThreeTransactions
  intro len pos s hlen
  have hbusy : (s.setUq (expandProgram (updateProgram s.frame s.brightness len pos))).busy = true :=
    State.busy_eq_true_iff.mpr (update_ne_nil _ _ _ hlen)
  refine ⟨encode_setseg len pos, _, exec_setseg s hlen pos, ?queue, length_update _ _ _ hlen, hbusy, ?status, rfl, ⟨rfl, rfl⟩,
    ⟨rfl, rfl⟩, ⟨⟨rfl, rfl⟩, ⟨rfl, rfl⟩, rfl⟩, ⟨rfl, rfl⟩, rfl, rfl, rfl⟩
  case queue => simp only [State.setUq_uq, expandProgram_update, expandProgram_transaction, List.append_assoc]
  case status =>
    refine State.status_eq_of_bits fun i hi => ?_
    rw [BitVec.getLsbD_or, State.getLsbD_status, hbusy]
    interval_cases i <;> simp

/-- Settles O22: the three flags CLRST clears, and their bits of STATUS. -/
theorem clrstClearsThreeFlags : Obligations.ClrstClearsThreeFlags := by
  unfold Obligations.ClrstClearsThreeFlags
  intro s
  refine ⟨rfl, _, exec_clrst s, rfl, rfl, rfl, ?status, rfl, rfl, ⟨rfl, rfl⟩, ⟨rfl, rfl⟩, ⟨rfl, rfl⟩, ⟨rfl, rfl⟩, rfl, rfl, rfl⟩
  case status =>
    refine State.status_eq_of_bits fun i hi => ?_
    rw [BitVec.getLsbD_and, State.getLsbD_status]
    interval_cases i <;> simp [State.busy]

end Sys2Proof
end

section
/-! PROOFS. One display update, run to its end: its size, and what its events depend on (43_commands.md sections 2 and 3). -/

namespace Sys2Proof.Machine

/-! ## The run of an update -/

variable (s : State)

/-- The state at the end of an update: its queue performed. -/
def State.afterUpdate (len : BitVec 3) (pos : Byte) (s : State) : State :=
  performs (expandProgram (updateProgram s.frame s.brightness len pos)) s

/-- The update that SETSEG loads at a quiet block runs to `afterUpdate` (43_commands.md R109, R113). -/
theorem runSteps_update {s t : State} {len : BitVec 3} {pos : Byte} (hlen : len.toNat ≤ 4) (hs : Quiet s)
    (ht : exec (.setseg len pos) s = .next t) : runSteps (198 + 58 * len.toNat) t = .next (s.afterUpdate len pos) := by
  obtain ⟨hq, hp, hi, -⟩ := hs
  rw [exec_setseg s hlen pos] at ht
  cases ht
  have hrun := runSteps_enqueue (expandProgram (updateProgram s.frame s.brightness len pos)) hq hp hi
  rwa [length_update _ _ _ hlen, State.enqueue, hq] at hrun

/-- A block whose queue has not been run to its end is busy. -/
theorem runSteps_busy {s : State} {q : List MicroOp} (hp : s.prog = []) (hi : s.inputs = []) {k : Nat} (hk : k < q.length) :
    ∃ v, runSteps k (s.setUq q) = .next v ∧ v.busy = true := by
  have hrun := runSteps_queue (s := s.setUq q) (q.take k) (q.drop k) hp hi (List.take_append_drop k q).symm
  rw [List.length_take_of_le hk.le] at hrun
  exact ⟨_, hrun, State.busy_eq_true_iff.mpr (by simpa using hk)⟩

theorem performs_wrbs_nackSeen (bytes : List Byte) : (performs (bytes.flatMap wrbOps) s).nackSeen = true ↔
    s.nackSeen = true ∨ ∃ k, k < bytes.length ∧ s.drawAt k = true := by
  induction bytes generalizing s with
  | nil => simp
  | cons v bytes ih =>
    rw [List.length_cons, Nat.exists_lt_succ_left]
    simp [performs_append, performs_wrbOps, ih, or_assoc]

/-- NACK_SEEN after a transaction: the OR of the bits that its SAMPLEs read (10_state.md R33). -/
theorem performs_transaction_nackSeen (bytes : List Byte) : (performs (expandProgram (transaction bytes)) s).nackSeen = true ↔
    s.nackSeen = true ∨ ∃ k, k < bytes.length ∧ s.drawAt k = true := by
  rw [expandProgram_transaction, performs_append, performs_append, performs_startOps, performs_stopOps]
  exact performs_wrbs_nackSeen _ bytes

/-- ACK_LAST after a transaction of one byte is that byte's acknowledge. -/
theorem performs_transaction_ackLast (b : Byte) : (performs (expandProgram (transaction [b])) s).ackLast = s.drawAt 0 := by
  simp [expandProgram_transaction, performs_append, performs_startOps, performs_stopOps, performs_wrbOps, State.byteSent]

variable {len : BitVec 3} (pos : Byte)

theorem State.afterUpdate_trace (hlen : len.toNat ≤ 4) : (s.afterUpdate len pos).trace =
    s.trace ++ updateEvents (fun k => s.drawAt k) s.frame s.brightness len pos :=
  performs_update_trace s s.frame s.brightness pos hlen

theorem State.afterUpdate_ackLast (hlen : len.toNat ≤ 4) : (s.afterUpdate len pos).ackLast = s.drawAt (len.toNat + 2) := by
  simp only [State.afterUpdate, performs_update, performs_transaction_ackLast, performs_transaction_drawAt, dataBytes,
    List.length_cons, List.length_nil, length_dataBytes s.frame hlen]
  congr 1; omega

theorem State.afterUpdate_drawAt (hlen : len.toNat ≤ 4) (k : Nat) :
    (s.afterUpdate len pos).drawAt k = s.drawAt (k + (len.toNat + 3)) := by
  simp only [State.afterUpdate, performs_update, performs_transaction_drawAt, dataBytes,
    List.length_cons, List.length_nil, length_dataBytes s.frame hlen]
  congr 1; omega

theorem State.afterUpdate_nackSeen (hlen : len.toNat ≤ 4) : (s.afterUpdate len pos).nackSeen = true ↔
    s.nackSeen = true ∨ ∃ k, k < len.toNat + 3 ∧ s.drawAt k = true := by
  rw [Nat.exists_lt_succ_left, Nat.exists_lt_succ_right]
  simp only [State.afterUpdate, performs_update, performs_transaction_nackSeen, performs_transaction_drawAt, dataBytes,
    List.length_cons, List.length_nil, length_dataBytes s.frame hlen, Nat.exists_lt_succ_left]
  simp [or_assoc]

/-! ## How much an update is -/

/-- How often a micro-op stands in a transaction, when every byte write has it `n` times. -/
theorem count_transaction {u : MicroOp} {n : Nat} (h : ∀ b, (wrbOps b).count u = n) (bytes : List Byte) :
    (expandProgram (transaction bytes)).count u = startOps.count u + n * bytes.length + stopOps.count u := by
  have hwrbs : (bytes.flatMap wrbOps).count u = n * bytes.length := by
    simp [List.count_flatMap, Function.comp_def, h, Nat.mul_comm]
  rw [expandProgram_transaction, List.count_append, List.count_append, hwrbs, Nat.add_assoc]

/-- The same of an update, which is three transactions of `3 + len` byte writes in all (43_commands.md R113). -/
theorem count_update {u : MicroOp} {n : Nat} (h : ∀ b, (wrbOps b).count u = n) (frame : Vector Byte 4) (brightness : BitVec 4)
    (hlen : len.toNat ≤ 4) : (expandProgram (updateProgram frame brightness len pos)).count u =
      3 * (startOps.count u + stopOps.count u) + n * (3 + len.toNat) := by
  simp only [expandProgram_update, updateBytes, List.flatMap_cons, List.flatMap_nil, List.count_append, List.count_nil,
    count_transaction h, List.length_cons, List.length_nil, length_dataBytes frame hlen]
  ring

theorem count_sample_wrbOps (b : Byte) : (wrbOps b).count .sample = 1 := by
  have hbit : ∀ x, (bitOps x).count .sample = 0 := fun x => by cases x <;> rfl
  have htail : ackTail.count .sample = 1 := rfl
  simp only [wrbOps, List.count_append, hbit, htail]

theorem length_transactionOps (bytes : List Byte) : (transaction bytes).length = bytes.length + 2 := by
  simp [transaction]

theorem count_start_transaction (bytes : List Byte) : (transaction bytes).count .start = 1 := by
  simp [transaction, List.count_eq_zero]

theorem count_stop_transaction (bytes : List Byte) : (transaction bytes).count .stop = 1 := by
  simp [transaction, List.count_eq_zero]

theorem samples_append (es fs : List Event) : samples (es ++ fs) = samples es ++ samples fs := by
  induction es with
  | nil => rfl
  | cons e es ih => cases e <;> simp [samples, ih]

/-- The size of a piece of the trace: the micro-ops that it takes, which are its events and one DRVLO_IF_ACK for each SAMPLE that
reads 1; its WAITs; its SAMPLEs (43_commands.md R113). -/
def eventsSize (es : List Event) : Nat × Nat × Nat := (es.length + (samples es).count true, waits es, (samples es).length)

theorem eventsSize_append (es fs : List Event) : eventsSize (es ++ fs) = eventsSize es + eventsSize fs := by
  simp [eventsSize, samples_append, waits, Nat.add_add_add_comm]

theorem eventsSize_flatMap {α : Type} {f : α → List Event} {c : Nat × Nat × Nat} (h : ∀ a, eventsSize (f a) = c) (l : List α) :
    eventsSize (l.flatMap f) = l.length • c := by
  induction l with
  | nil => exact (zero_nsmul c).symm
  | cons a l ih => rw [List.flatMap_cons, eventsSize_append, h, ih, List.length_cons, succ_nsmul']

theorem eventsSize_byteEvents (v : Byte) (b : Bool) : eventsSize (byteEvents v b) = (58, 28, 1) := by
  have hbit : ∀ i, eventsSize (bitEvents (v.getLsbD i)) = (6, 3, 0) := fun i => by cases v.getLsbD i <;> rfl
  have hack : eventsSize (ackEvents b) = (10, 4, 1) := by cases b <;> rfl
  rw [byteEvents, eventsSize_append, eventsSize_flatMap hbit, hack]
  rfl

theorem eventsSize_bytesEvents (draw : Nat → Bool) (bytes : List Byte) :
    eventsSize (bytesEvents draw bytes) = bytes.length • (58, 28, 1) := by
  induction bytes generalizing draw with
  | nil => rfl
  | cons v bytes ih => rw [bytesEvents, eventsSize_append, eventsSize_byteEvents, ih, List.length_cons, succ_nsmul']

theorem eventsSize_transactionEvents (draw : Nat → Bool) (bytes : List Byte) :
    eventsSize (transactionEvents draw bytes) = (8 + 58 * bytes.length, 4 + 28 * bytes.length, bytes.length) := by
  have hstart : eventsSize [.drive .dio, .wait] = (2, 1, 0) := rfl
  have hstop : eventsSize [.drive .dio, .wait, .release .clk, .wait, .release .dio, .wait] = (6, 3, 0) := rfl
  rw [transactionEvents, eventsSize_append, eventsSize_append, eventsSize_bytesEvents, hstart, hstop]
  simp only [Prod.smul_mk, Prod.mk_add_mk, Prod.mk.injEq, smul_eq_mul]
  omega

/-- The size of an update's events (R113). -/
theorem eventsSize_updateEvents (draw : Nat → Bool) (frame : Vector Byte 4) (brightness : BitVec 4) (hlen : len.toNat ≤ 4) :
    eventsSize (updateEvents draw frame brightness len pos) = (198 + 58 * len.toNat, 96 + 28 * len.toNat, 3 + len.toNat) := by
  simp only [updateEvents, eventsSize_append, eventsSize_transactionEvents, List.length_cons, List.length_nil,
    length_dataBytes frame hlen, Prod.mk_add_mk, Prod.mk.injEq]
  omega

/-! ## What an update's events depend on -/

/-- An update's events in the terms of its wire bytes (30_encoding.md R74). -/
theorem updateEvents_eq (draw : Nat → Bool) (frame : Vector Byte 4) (brightness : BitVec 4) :
    updateEvents draw frame brightness len pos = transactionEvents draw [preambleByte] ++
      transactionEvents (fun k => draw (k + 1)) (addressByte pos :: dataBytes frame len) ++
      transactionEvents (fun k => draw (k + 2 + len.toNat)) [controlByte brightness] := rfl

theorem bytesEvents_congr {draw draw' : Nat → Bool} {bytes : List Byte} (h : ∀ k, k < bytes.length → draw k = draw' k) :
    bytesEvents draw bytes = bytesEvents draw' bytes := by
  induction bytes generalizing draw draw' with
  | nil => rfl
  | cons v bytes ih =>
    rw [bytesEvents, bytesEvents, h 0 (by simp), ih fun k hk => h (k + 1) (by simpa using hk)]

theorem transactionEvents_congr {draw draw' : Nat → Bool} {bytes : List Byte} (h : ∀ k, k < bytes.length → draw k = draw' k) :
    transactionEvents draw bytes = transactionEvents draw' bytes := by
  rw [transactionEvents, transactionEvents, bytesEvents_congr h]

/-- The events of an update come from its bytes and its first `len + 3` draws (43_commands.md R117). -/
theorem updateEvents_congr {draw draw' : Nat → Bool} {frame frame' : Vector Byte 4} {pos pos' : Byte} (brightness : BitVec 4)
    (hlen : len.toNat ≤ 4) (haddr : addressByte pos = addressByte pos') (hdata : dataBytes frame len = dataBytes frame' len)
    (h : ∀ k, k < len.toNat + 3 → draw k = draw' k) :
    updateEvents draw frame brightness len pos = updateEvents draw' frame' brightness len pos' := by
  have hlength : (dataBytes frame' len).length = len.toNat := length_dataBytes frame' hlen
  have hfirst : transactionEvents draw [preambleByte] = transactionEvents draw' [preambleByte] :=
    transactionEvents_congr fun k hk => h k (by simp at hk; omega)
  have hsecond : transactionEvents (fun k => draw (k + 1)) (addressByte pos' :: dataBytes frame' len) =
      transactionEvents (fun k => draw' (k + 1)) (addressByte pos' :: dataBytes frame' len) :=
    transactionEvents_congr fun k hk => h _ (by simp [hlength] at hk; omega)
  have hthird : transactionEvents (fun k => draw (k + 2 + len.toNat)) [controlByte brightness] =
      transactionEvents (fun k => draw' (k + 2 + len.toNat)) [controlByte brightness] :=
    transactionEvents_congr fun k hk => h _ (by simp at hk; omega)
  rw [updateEvents_eq, updateEvents_eq, haddr, hdata, hfirst, hsecond, hthird]

/-- The address byte takes two bits of the position (30_encoding.md R74). -/
theorem addressByte_congr {pos pos' : Byte} (h : pos.toNat % 4 = pos'.toNat % 4) : addressByte pos = addressByte pos' := by
  obtain ⟨-, haddr, -⟩ := wireBytesHaveTheirFixedBits
  exact BitVec.eq_of_toNat_eq (by rw [haddr, haddr, h])

/-- The data bytes are the slots below the length (20_memory.md R50). -/
theorem dataBytes_congr {s s' : State} (hlen : len.toNat ≤ 4) (h : ∀ i : BitVec 2, i.toNat < len.toNat → s.slot i = s'.slot i) :
    dataBytes s.frame len = dataBytes s'.frame len := by
  refine List.ext_getElem (by simp [dataBytes]) fun i hi _ => ?_
  rw [dataBytes, length_dataBytes s.frame hlen] at hi
  have hi4 : (BitVec.ofNat 2 i).toNat = i := Nat.mod_eq_of_lt (hi.trans_le hlen)
  simpa [dataBytes, State.slot, hi4] using h (BitVec.ofNat 2 i) (by rwa [hi4])

end Sys2Proof.Machine

/-! ## The statements -/

namespace Sys2Proof

open Machine

/-- Settles O33: the run performs the update's queue, and `afterUpdate` is what that leaves. -/
theorem displayUpdateRunsToItsEnd : Obligations.DisplayUpdateRunsToItsEnd := by
  unfold Obligations.DisplayUpdateRunsToItsEnd
  intro len pos s hlen hs
  have hexec := exec_setseg s hlen pos
  have hrun := runSteps_update hlen hs hexec
  obtain ⟨hq, hp, hi, -⟩ := hs
  obtain ⟨huq, hprog, hin, hbr, hframe, hill, hbusy, hbrt, hrec⟩ :=
    performs_frame (expandProgram (updateProgram s.frame s.brightness len pos)) s
  have hreleased := performs_update_released s s.frame s.brightness len pos
  refine ⟨_, s.afterUpdate len pos, hexec, hrun, ?busy, ⟨huq.trans hq, hprog.trans hp, hin.trans hi, hreleased⟩,
    s.afterUpdate_trace pos hlen, s.afterUpdate_ackLast pos hlen, s.afterUpdate_nackSeen pos hlen,
    s.afterUpdate_drawAt pos hlen, ⟨hbr, hframe⟩, ⟨hill, hbusy⟩, hbrt, hrec⟩
  case busy =>
    intro k hk
    exact runSteps_busy hp hi (hk.trans_eq (length_update s.frame s.brightness pos hlen).symm)

/-- Settles O35: counts of the queue by its three transactions, and of the events by their size. -/
theorem displayUpdateHasItsSize : Obligations.DisplayUpdateHasItsSize := by
  unfold Obligations.DisplayUpdateHasItsSize
  intro len pos s t u hlen hs ht hu
  rw [runSteps_update hlen hs ht] at hu
  cases hu
  rw [exec_setseg s hlen pos] at ht
  cases ht
  have hsize := eventsSize_updateEvents pos (fun k => s.drawAt k) s.frame s.brightness hlen
  simp only [eventsSize, Prod.mk.injEq] at hsize
  obtain ⟨hops, hwaits, hsamples⟩ := hsize
  refine ⟨⟨_, rfl, ?starts, ?stops, ?length⟩, length_update _ _ _ hlen, ?queueWaits, ?queueSamples, _,
    s.afterUpdate_trace pos hlen, hops, hwaits, hsamples, ?time⟩
  case starts => simp only [updateProgram, List.count_append, count_start_transaction]
  case stops => simp only [updateProgram, List.count_append, count_stop_transaction]
  case length =>
    simp only [updateProgram, List.length_append, length_transactionOps, List.length_cons, List.length_nil, dataBytes,
      length_dataBytes s.frame hlen]
    omega
  case queueWaits =>
    rw [State.setUq_uq, count_update pos count_wait_wrbOps _ _ hlen, show startOps.count .wait + stopOps.count .wait = 4 from rfl]
    omega
  case queueSamples =>
    rw [State.setUq_uq, count_update pos count_sample_wrbOps _ _ hlen,
      show startOps.count .sample + stopOps.count .sample = 0 from rfl]
    omega
  case time => rw [minHold, hwaits, Config.tUnitDefault]; omega

/-- Settles O36: both programs have the same bytes, and both runs emit the events of the same bytes and draws. -/
theorem sameUpdateSameQueueSameEvents : Obligations.SameUpdateSameQueueSameEvents := by
  unfold Obligations.SameUpdateSameQueueSameEvents
  intro len pos pos' s s' hlen hpos hbr hslots
  have haddr := addressByte_congr hpos
  have hdata := dataBytes_congr hlen hslots
  have hprog : updateProgram s.frame s.brightness len pos = updateProgram s'.frame s'.brightness len pos' := by
    rw [updateProgram, updateProgram, haddr, hdata, hbr]
  have hexec := exec_setseg s hlen pos
  have hexec' := exec_setseg s' hlen pos'
  refine ⟨_, _, hexec, hexec', congrArg expandProgram hprog, fun hs hs' hdraws => ?_⟩
  refine ⟨_, _, runSteps_update hlen hs hexec, runSteps_update hlen hs' hexec', ?_⟩
  rw [s.afterUpdate_trace pos hlen, s'.afterUpdate_trace pos' hlen, List.drop_left, List.drop_left, hbr]
  exact updateEvents_congr _ hlen haddr hdata hdraws

end Sys2Proof
end

section
/-! PROOFS. What a recorder of the two wires recovers from an update (43_commands.md R118, 42_transport.md R103). -/

namespace Sys2Proof.Machine

/-! ## The wires, the device and the recorder, event by event -/

/-- The block's directions, the device that complies and the recorder, as the events of a trace move them together. -/
structure Watch where
  dirs : Dirs
  device : Device
  recorder : Recorder

/-- One event: the device follows it, and the recorder sees the levels that it and the directions make. -/
def Watch.event (w : Watch) (e : Event) : Watch where
  dirs := w.dirs.after e
  device := w.device.follow e
  recorder := w.recorder.see ((w.dirs.after e).levels { clk := false, dio := (w.device.follow e).pulling })

/-- A piece of the trace. -/
def Watch.events (w : Watch) (es : List Event) : Watch := es.foldl Watch.event w

theorem Watch.events_append (w : Watch) (es fs : List Event) : w.events (es ++ fs) = (w.events es).events fs := by
  simp [Watch.events]

/-- What a recorder sees of a line-level trace is what `Watch` follows. -/
theorem foldl_see_levelTrace (w : Watch) (es : List Event) :
    (levelTrace w.dirs (w.device.pulls es)).foldl Recorder.see w.recorder = (w.events es).recorder := by
  induction es generalizing w with
  | nil => rfl
  | cons e es ih => exact ih (w.event e)

/-- On an idle bus, with `closed` the transactions recovered so far. -/
def Watch.quiet (acks : List Bool) (closed : List (List Byte)) : Watch where
  dirs := .released
  device := { clkLow := false, edges := 0, pulling := false, acks := acks }
  recorder := { seen := { clk := true, dio := true }, bits := none, bytes := [], closed := closed }

/-- Inside a transaction, between two bit groups: `bits` of the current byte are on record, and `bytes` before it. -/
def Watch.sending (clk dio : Dir) (acks bits : List Bool) (bytes : List Byte) (closed : List (List Byte)) : Watch where
  dirs := { clk := clk, dio := dio }
  device := { clkLow := decide (clk = .OUT), edges := bits.length, pulling := false, acks := acks }
  recorder := { seen := { clk := decide (clk = .IN), dio := decide (dio = .IN) }, bits := some bits,
                bytes := bytes, closed := closed }

variable (clk dio : Dir) (acks : List Bool) (bytes : List Byte) (closed : List (List Byte))

/-- START opens a transaction (42_transport.md R96, R103 (a)). -/
theorem Watch.events_start : (Watch.quiet acks closed).events [.drive .dio, .wait] = .sending .IN .OUT acks [] [] closed := rfl

/-- STOP after a byte closes the transaction (R97, R103 (b)). -/
theorem Watch.events_stop : (Watch.sending .OUT dio acks [] bytes closed).events
    [.drive .dio, .wait, .release .clk, .wait, .release .dio, .wait] = .quiet acks (closed ++ [bytes]) := by
  cases dio <;> rfl

/-- A bit group puts its bit on record (R99, R103 (c)). -/
theorem Watch.events_bit {bits : List Bool} (h : bits.length < 8) (x : Bool) :
    (Watch.sending clk dio acks bits bytes closed).events (bitEvents x) =
      .sending .IN (if x then .IN else .OUT) acks (bits ++ [x]) bytes closed := by
  have h8 : bits.length ≠ 8 := by omega
  have h9 : bits.length ≠ 9 := by omega
  cases x <;>
    simp [Watch.events, Watch.event, Watch.sending, bitEvents, Device.follow, Dirs.after, Dirs.levels, level,
      Recorder.see, h, h8, h9]

/-- The ACK tail ends the byte (R100, R103 (c)). -/
theorem Watch.events_ack {bits : List Bool} (h : bits.length = 8) (b : Bool) :
    (Watch.sending clk dio ((!b) :: acks) bits bytes closed).events (ackEvents b) =
      .sending .OUT (if b then .IN else .OUT) acks [] (bytes ++ [assembleByte bits]) closed := by
  cases b <;>
    simp [Watch.events, Watch.event, Watch.sending, ackEvents, Device.follow, Dirs.after, Dirs.levels, level, Recorder.see, h]

/-- The bit groups of a byte, in some directions at their end. -/
theorem Watch.events_bits (xs : List Bool) {bits : List Bool} (h : bits.length + xs.length ≤ 8) :
    ∃ clk' dio', (Watch.sending clk dio acks bits bytes closed).events (xs.flatMap bitEvents) =
      .sending clk' dio' acks (bits ++ xs) bytes closed := by
  induction xs generalizing clk dio bits with
  | nil => exact ⟨clk, dio, by simp [Watch.events]⟩
  | cons x xs ih =>
    rw [List.length_cons] at h
    obtain ⟨clk', dio', hrest⟩ := ih .IN (if x then .IN else .OUT) (bits := bits ++ [x]) (by simp; omega)
    refine ⟨clk', dio', ?_⟩
    rw [List.flatMap_cons, Watch.events_append, Watch.events_bit clk dio acks bytes closed (by omega) x, hrest]
    simp

/-- Least significant bit first, the bits of a byte make the byte (20_memory.md R49). -/
theorem assembleByte_bits (v : Byte) : assembleByte ((List.range 8).map v.getLsbD) = v := by
  revert v; decide

/-- One byte of a transaction is put on record, under either acknowledge (42_transport.md R98). -/
theorem Watch.events_byte (v : Byte) (b : Bool) :
    (Watch.sending clk dio ((!b) :: acks) [] bytes closed).events (byteEvents v b) =
      .sending .OUT (if b then .IN else .OUT) acks [] (bytes ++ [v]) closed := by
  obtain ⟨clk', dio', hbits⟩ :=
    Watch.events_bits clk dio ((!b) :: acks) bytes closed ((List.range 8).map v.getLsbD) (bits := []) (by simp)
  rw [List.flatMap_map] at hbits
  rw [byteEvents, Watch.events_append, hbits, List.nil_append, Watch.events_ack _ _ _ _ _ (by simp), assembleByte_bits]

theorem samples_byteEvents (v : Byte) (b : Bool) : samples (byteEvents v b) = [b] := by
  have hbit : ∀ x, samples (bitEvents x) = [] := fun x => by cases x <;> rfl
  have hbits : ∀ l : List Nat, samples (l.flatMap fun i => bitEvents (v.getLsbD i)) = [] := fun l => by
    induction l with
    | nil => rfl
    | cons i l ih => rw [List.flatMap_cons, samples_append, hbit, ih, List.nil_append]
  have hack : samples (ackEvents b) = [b] := by cases b <;> rfl
  rw [byteEvents, samples_append, hbits, hack, List.nil_append]

/-- The acknowledges that a device gives for a piece of the trace to read what it does. -/
def acksOf (es : List Event) : List Bool := (samples es).map (!·)

theorem acksOf_append (es fs : List Event) : acksOf (es ++ fs) = acksOf es ++ acksOf fs := by
  simp [acksOf, samples_append]

theorem acksOf_byteEvents (v : Byte) (b : Bool) : acksOf (byteEvents v b) = [!b] := by
  simp [acksOf, samples_byteEvents]

/-- The bytes of a transaction, at least one, are put on record in order. -/
theorem Watch.events_bytes (draw : Nat → Bool) (v : Byte) (vs : List Byte) :
    ∃ dio', (Watch.sending clk dio (acksOf (bytesEvents draw (v :: vs)) ++ acks) [] bytes closed).events
      (bytesEvents draw (v :: vs)) = .sending .OUT dio' acks [] (bytes ++ v :: vs) closed := by
  induction vs generalizing clk dio bytes draw v with
  | nil =>
    refine ⟨if draw 0 then .IN else .OUT, ?_⟩
    simp [bytesEvents, acksOf_byteEvents, Watch.events_byte]
  | cons w vs ih =>
    obtain ⟨dio', hrest⟩ := ih .OUT (if draw 0 then .IN else .OUT) (bytes ++ [v]) (fun k => draw (k + 1)) w
    refine ⟨dio', ?_⟩
    rw [bytesEvents, acksOf_append, acksOf_byteEvents, Watch.events_append, List.append_assoc, List.singleton_append,
      Watch.events_byte, hrest, List.append_assoc, List.singleton_append]

/-- A transaction is recovered byte for byte (42_transport.md R103). -/
theorem Watch.events_transaction (draw : Nat → Bool) (v : Byte) (vs : List Byte) :
    (Watch.quiet (acksOf (transactionEvents draw (v :: vs)) ++ acks) closed).events (transactionEvents draw (v :: vs)) =
      .quiet acks (closed ++ [v :: vs]) := by
  have hacks : acksOf (transactionEvents draw (v :: vs)) = acksOf (bytesEvents draw (v :: vs)) := by
    rw [transactionEvents, acksOf_append, acksOf_append]; exact List.append_nil _
  obtain ⟨dio', hbytes⟩ := Watch.events_bytes .IN .OUT acks [] closed draw v vs
  rw [hacks, transactionEvents, Watch.events_append, Watch.events_append, Watch.events_start, hbytes, Watch.events_stop,
    List.nil_append]

/-- What is recovered of a trace on an idle bus is what `Watch` has closed at its end. -/
theorem recover_compliantLevels (es : List Event) :
    recover (compliantLevels es) = ((Watch.quiet (acksOf es) []).events es).recorder.closed :=
  congrArg Recorder.closed (foldl_see_levelTrace (Watch.quiet (acksOf es) []) es)

/-- A recorder recovers the three transactions of an update, under every draw (43_commands.md R118). -/
theorem recover_updateEvents (draw : Nat → Bool) (frame : Vector Byte 4) (brightness : BitVec 4) (len : BitVec 3) (pos : Byte) :
    recover (compliantLevels (updateEvents draw frame brightness len pos)) = updateBytes frame brightness len pos := by
  rw [recover_compliantLevels, ← List.append_nil (acksOf _)]
  simp only [updateEvents, acksOf_append, Watch.events_append, List.append_assoc, Watch.events_transaction]
  rfl

end Sys2Proof.Machine

/-! ## The statement -/

namespace Sys2Proof

open Machine

/-- Settles O34: the piece of the trace is the update's events, which a recorder recovers the bytes of. -/
theorem recorderRecoversTheUpdatesBytes : Obligations.RecorderRecoversTheUpdatesBytes := by
  unfold Obligations.RecorderRecoversTheUpdatesBytes
  intro len pos s t u hlen hs ht hu
  rw [runSteps_update hlen hs ht] at hu
  cases hu
  rw [s.afterUpdate_trace pos hlen, List.drop_left, recover_updateEvents]

end Sys2Proof
end

section
/-! PROOFS. The host-side frame builder (44_frame_builder.md). -/

namespace Sys2Proof.Machine

variable (seg : Byte → Byte)

/-! ## The builder after a text -/

/-- The builder after the characters of a text (44_frame_builder.md R125). -/
def FrameCursor.after (text : List Byte) : FrameCursor := text.foldl (FrameCursor.put seg) .blank

theorem buildFrame_eq_masks (text : List Byte) : buildFrame seg text = (FrameCursor.after seg text).masks := rfl

theorem buildFrame_append (text rest : List Byte) :
    buildFrame seg (text ++ rest) = (rest.foldl (FrameCursor.put seg) (FrameCursor.after seg text)).masks :=
  congrArg FrameCursor.masks List.foldl_append

theorem FrameCursor.after_concat (text : List Byte) (ch : Byte) :
    FrameCursor.after seg (text ++ [ch]) = (FrameCursor.after seg text).put seg ch := List.foldl_concat ..

/-- The digit-class characters of a text take a slot each, up to four; punctuation takes none (R125, R126). -/
theorem FrameCursor.slotsTaken_after (text : List Byte) :
    slotsTaken (FrameCursor.after seg text).cursor = min (text.countP fun ch => !isPunct ch) 4 := by
  induction text using List.reverseRecOn with
  | nil => rfl
  | append_singleton text ch ih =>
    rw [after_concat, List.countP_append, List.countP_singleton]
    cases hch : isPunct ch with
    | true => simpa [cursor_put_punct seg _ hch] using ih
    | false =>
      simp only [Bool.not_false, if_true]
      obtain hlt | hfull := (slotsTaken_le (after seg text).cursor).lt_or_eq
      · have hput := (put_digit seg _ hch hlt).2
        omega
      · rw [put_full seg _ hch hfull]
        omega

/-- Punctuation folds into the last slot taken (R127). -/
theorem FrameCursor.put_punct_taken {f : FrameCursor} {c : Fin 4} {ch : Byte} (h : isPunct ch = true)
    (hc : slotsTaken f.cursor = c.val + 1) :
    f.put seg ch = { masks := f.masks.set c.val (f.masks[c] ||| (seg ch &&& 0x80#8)), cursor := some c } := by
  obtain ⟨masks, cursor⟩ := f
  cases cursor with
  | none => cases hc
  | some d =>
    obtain rfl : d = c := Fin.ext (Nat.succ.inj hc)
    exact put_punct seg masks d h

/-- Punctuation changes at most one slot's mask, by its bit 7 (R127). -/
theorem FrameCursor.masks_put_punct (f : FrameCursor) {ch : Byte} (h : isPunct ch = true) :
    (f.put seg ch).masks = f.masks ∨
      ∃ c : Fin 4, (f.put seg ch).masks = f.masks.set c.val (f.masks[c] ||| (seg ch &&& 0x80#8)) := by
  obtain ⟨masks, cursor⟩ := f
  cases cursor with
  | none => exact .inl (congrArg FrameCursor.masks (put_punct_first seg masks h))
  | some c => exact .inr ⟨c, congrArg FrameCursor.masks (put_punct seg masks c h)⟩

/-- A second punctuation character of the same kind changes nothing (R127). -/
theorem FrameCursor.put_put_punct (f : FrameCursor) {ch : Byte} (h : isPunct ch = true) :
    (f.put seg ch).put seg ch = f.put seg ch := by
  obtain ⟨masks, cursor⟩ := f
  cases cursor with
  | none => simp only [put_punct_first seg masks h]
  | some c => simp [put_punct seg _ c h, BitVec.or_assoc]

/-- Before any digit-class character punctuation is dropped (R127). -/
theorem FrameCursor.after_of_all_punct {text : List Byte} (h : ∀ ch ∈ text, isPunct ch = true) :
    FrameCursor.after seg text = .blank := by
  induction text using List.reverseRecOn with
  | nil => rfl
  | append_singleton text ch ih =>
    rw [after_concat, ih fun d hd => h d (List.mem_append_left _ hd)]
    exact put_punct_first seg _ (h ch (by simp))

/-- The next digit-class character behind a text with `n < 4` of them is put into slot `n` (R125). -/
theorem buildFrame_concat_digit {text : List Byte} {ch : Byte} {n : Nat} (h : isPunct ch = false)
    (hn : (text.countP fun d => !isPunct d) = n) (hlt : n < 4) :
    buildFrame seg (text ++ [ch]) = (buildFrame seg text).set n (seg ch) := by
  obtain rfl : slotsTaken (FrameCursor.after seg text).cursor = n := by rw [FrameCursor.slotsTaken_after]; omega
  rw [buildFrame_eq_masks, FrameCursor.after_concat, (FrameCursor.put_digit seg _ h hlt).1, buildFrame_eq_masks]

/-- Punctuation behind a text with a digit-class character folds into the slot of the last one, slot 3 when a fifth was dropped
(R127, R128). -/
theorem buildFrame_concat_punct {text : List Byte} {ch : Byte} {c : Fin 4} (h : isPunct ch = true)
    (hc : c.val + 1 = min (text.countP fun d => !isPunct d) 4) : buildFrame seg (text ++ [ch]) =
      (buildFrame seg text).set c.val ((buildFrame seg text)[c] ||| (seg ch &&& 0x80#8)) :=
  congrArg FrameCursor.masks ((FrameCursor.after_concat seg text ch).trans
    (FrameCursor.put_punct_taken seg h ((FrameCursor.slotsTaken_after seg text).trans hc.symm)))

/-- Behind a text with four digit-class characters another one leaves the builder as it is (R126). -/
theorem FrameCursor.after_concat_full {text : List Byte} {ch : Byte} (h : isPunct ch = false)
    (hn : 4 ≤ text.countP fun d => !isPunct d) : FrameCursor.after seg (text ++ [ch]) = FrameCursor.after seg text := by
  rw [after_concat, put_full seg _ h (by rw [slotsTaken_after]; omega)]

/-! ## The words of a frame shown -/

/-- The loads of a whole frame: the word of LDSLOT for each slot, in order (30_encoding.md R67, R81). -/
theorem loadSlots_four (m0 m1 m2 m3 : Byte) : loadSlots 0 [m0, m1, m2, m3] = some [.word (0x2000#16 ||| m0.zeroExtend 16),
    .word (0x2100#16 ||| m1.zeroExtend 16), .word (0x2200#16 ||| m2.zeroExtend 16), .word (0x2300#16 ||| m3.zeroExtend 16)] := rfl

theorem hostWord_setseg_four (pos : Byte) : hostWord (.setseg 4#3 pos) = some (0x3400#16 ||| pos.zeroExtend 16) := rfl

/-- The host words of SHOW: LDSLOT of each slot and SETSEG of all four, between WAITIDLEs (30_encoding.md R81). -/
theorem showFour_eq (masks : Vector Byte 4) (pos : Byte) : showFour masks pos = some [.waitIdle,
    .word (0x2000#16 ||| masks[0].zeroExtend 16), .word (0x2100#16 ||| masks[1].zeroExtend 16),
    .word (0x2200#16 ||| masks[2].zeroExtend 16), .word (0x2300#16 ||| masks[3].zeroExtend 16),
    .word (0x3400#16 ||| pos.zeroExtend 16), .waitIdle] := by
  obtain ⟨⟨l⟩, hl⟩ := masks
  obtain ⟨m0, m1, m2, m3, rfl⟩ := List.length_eq_four.mp hl
  obtain ⟨w, hw, hshow⟩ := showSome_eq (pos := pos) (by simp) (loadSlots_four m0 m1 m2 m3)
  obtain rfl : 0x3400#16 ||| pos.zeroExtend 16 = w := Option.some.inj ((hostWord_setseg_four pos).symm.trans hw)
  exact hshow

end Sys2Proof.Machine

/-! ## The statements -/

namespace Sys2Proof

open Machine

/-- Settles O53, by induction on the text from its end: the last character takes the slot behind the others, or is cut off. -/
theorem digitsFillTheSlotsAndAreTruncated : Obligations.DigitsFillTheSlotsAndAreTruncated := by
  unfold Obligations.DigitsFillTheSlotsAndAreTruncated
  intro seg text htext
  induction text using List.reverseRecOn with
  | nil => rfl
  | append_singleton text ch ih =>
    simp only [List.mem_append, List.mem_singleton, or_imp, forall_and, forall_eq] at htext
    obtain ⟨htext, hch⟩ := htext
    have hcount : (text.countP fun d => !isPunct d) = text.length :=
      List.countP_eq_length.mpr fun d hd => by simp [htext d hd]
    by_cases hlt : text.length < 4
    · rw [buildFrame_concat_digit seg hch hcount hlt, Vector.toList_set, ih htext, ← List.take_set,
        List.set_append_right _ _ (by simp)]
      have hcut : [seg ch, 0x00#8, 0x00#8, 0x00#8].take (4 - text.length) =
          [seg ch, 0x00#8, 0x00#8, 0x00#8, 0x00#8].take (4 - text.length) :=
        (List.take_append_of_le_length (l₂ := [0x00#8]) (by simp)).symm
      simpa [List.take_append] using hcut
    · rw [buildFrame_eq_masks, FrameCursor.after_concat_full seg hch (by omega), ← buildFrame_eq_masks, ih htext]
      simp [List.take_append_of_le_length, Nat.not_lt.mp hlt]

/-- Settles O54: the character leaves the builder as it is, so what follows finds it the same. -/
theorem charactersBeyondTheFourthAreDropped : Obligations.CharactersBeyondTheFourthAreDropped := by
  unfold Obligations.CharactersBeyondTheFourthAreDropped
  intro seg text rest ch hn hch
  rw [List.append_cons, buildFrame_append, FrameCursor.after_concat_full seg hch hn, ← buildFrame_append]

/-- Settles O55, by where the cursor stands when the punctuation is met. -/
theorem punctuationFoldsOnlyBitSeven : Obligations.PunctuationFoldsOnlyBitSeven := by
  unfold Obligations.PunctuationFoldsOnlyBitSeven
  intro seg text ch hch
  simp only [buildFrame_eq_masks, FrameCursor.after_concat, List.append_cons text ch [ch], FrameCursor.put_put_punct seg _ hch,
    true_and]
  constructor
  · exact FrameCursor.masks_put_punct seg (FrameCursor.after seg text) hch
  · intro htext
    rw [FrameCursor.after_of_all_punct seg htext]
    exact congrArg FrameCursor.masks (FrameCursor.put_punct_first seg _ hch)

/-- Settles O56: the cursor counts the digit-class characters only, so it stands on the last one's slot. -/
theorem punctuationFoldsIntoThePrecedingSlot : Obligations.PunctuationFoldsIntoThePrecedingSlot := by
  unfold Obligations.PunctuationFoldsIntoThePrecedingSlot
  intro seg p hp
  refine ⟨fun text c hc => buildFrame_concat_punct seg hp hc, fun text b c hc hb => ?_, fun a b ha hb => ?_⟩
  · rw [List.append_cons]
    exact buildFrame_concat_digit seg hb (by simp [hp, hc]) c.isLt
  · rw [show [a, p, b] = [] ++ [a] ++ [p] ++ [b] from rfl, buildFrame_concat_digit seg (n := 1) hb (by simp [ha, hp]) (by decide),
      buildFrame_concat_punct seg (c := 0) hp (by simp [ha]), buildFrame_concat_digit seg (n := 0) ha rfl (by decide)]
    rfl

/-- Settles O57: SHOWTEXT is SHOW by definition, and SHOW at position 0 has these words. -/
theorem showtextSendsTheBuiltFrameAtPositionZero : Obligations.ShowtextSendsTheBuiltFrameAtPositionZero := by
  unfold Obligations.ShowtextSendsTheBuiltFrameAtPositionZero
  exact fun seg text => ⟨rfl, showFour_eq (buildFrame seg text) 0x00#8⟩

end Sys2Proof
end

section
/-! PROOFS. The one exception: no step is stopped, dropped words and their record, words presented during an update
(60_exceptions.md). -/

/-! ## Every step answers -/

namespace Sys2Proof.Machine

/-- No arm of `exec` faults or refuses. -/
theorem exec_answers (i : Instr) (s : State) : ∃ t, exec i s = .next t := by
  cases i with
  | setseg len pos =>
    by_cases hlen : len.toNat ≤ maxLen
    · exact ⟨_, exec_setseg s hlen pos⟩
    · exact ⟨_, exec_setseg_illegal s hlen pos⟩
  | setbrt | ldslot | clrst | drvlo | rel | wait | sample | drvloIfAck | start | stop | wrb => exact ⟨_, rfl⟩

/-- An accept step drops the word or runs it (43_commands.md R104). -/
theorem accept_answers (w : CmdWord) (s : State) : ∃ t, accept w s = .next t := by
  by_cases hq : s.uq = []
  · cases hd : decodeCmd w with
    | error e => exact ⟨_, accept_illegal hq hd⟩
    | ok i => rw [accept_legal hq hd]; exact exec_answers i s
  · exact ⟨_, accept_busy w hq⟩

/-- The sequencer's turn waits for nothing (41_line_ops.md R94). -/
theorem sequence_answers (s : State) : ∃ t, sequence s = .next t := by
  cases hp : s.prog with
  | cons op rest => rw [sequence_prog hp]; exact exec_answers _ _
  | nil =>
    cases hq : s.uq with
    | cons u rest => rw [sequence_uq hp hq]; exact exec_answers _ _
    | nil => exact ⟨s, sequence_idle hp hq⟩

/-! ## The trace and the fault record -/

section
variable (s : State)

@[simp] theorem State.raiseCmdError_trace (c : CmdError) (w : CmdWord) : (s.raiseCmdError c w).trace = s.trace := by
  cases c <;> rfl

@[simp] theorem State.raiseCmdError_faultRecord (c : CmdError) (w : CmdWord) :
    (s.raiseCmdError c w).faultRecord = s.faultRecord ++ [{ cause := c, word := w }] := by
  cases c <;> rfl

@[simp] theorem State.inputTaken_trace : s.inputTaken.trace = s.trace := rfl
@[simp] theorem State.inputTaken_faultRecord : s.inputTaken.faultRecord = s.faultRecord := rfl

/-- A line micro-op only adds to the trace (10_state.md R41). -/
theorem perform_trace_prefix (u : MicroOp) : s.trace <+: (perform u s).trace := by
  cases u with
  | drvlo l => exact ⟨_, (s.trace_driveLow l).symm⟩
  | rel l => exact ⟨_, (s.trace_release l).symm⟩
  | wait => exact ⟨_, s.hold_trace.symm⟩
  | sample => exact ⟨_, s.sampleDio_trace.symm⟩
  | drvloIfAck => cases ha : s.ackLast <;> simp [perform, ha]

end

/-- The coming step drops a word presented to it: the block is busy, or the word is illegal (43_commands.md R104). -/
def WordDropped (s : State) : Prop :=
  ∃ w, s.inputs.head? = some (.present w) ∧ (s.uq ≠ [] ∨ ∃ e, decodeCmd w = .error e)

/-- The error flag that the cause of a fault entry sets (60_exceptions.md R132). -/
def FlagOf (c : CmdError) (t : State) : Prop :=
  match c with
  | .busy => t.errBusy = true
  | .illegal => t.errIllegal = true

theorem flagOf_raiseCmdError (c : CmdError) (w : CmdWord) (s : State) : FlagOf c (s.raiseCmdError c w) := by
  cases c <;> rfl

/-- A word that runs is not dropped. -/
theorem not_wordDropped_of_ok {s : State} {w : CmdWord} {i : Instr} (hin : s.inputs.head? = some (.present w)) (hq : s.uq = [])
    (hd : decodeCmd w = .ok i) : ¬ WordDropped s := by
  simp [WordDropped, hin, hq, hd]

/-- A step with no word presented drops none. -/
theorem not_wordDropped_of_turn {s : State} (hin : s.inputs.head?.getD .idle = .idle) : ¬ WordDropped s := by
  rintro ⟨w, hw, -⟩
  simp [hw] at hin

/-- A step either drops a word, records it and sets the flag of its cause, or drops none and keeps the record (60_exceptions.md
R139). -/
theorem StepTo.faultRecord_cases {s t : State} (h : StepTo s t) :
    (WordDropped s ∧ ∃ e : FaultEntry, t.faultRecord = s.faultRecord ++ [e] ∧ FlagOf e.cause t) ∨
      (¬ WordDropped s ∧ t.faultRecord = s.faultRecord) := by
  cases h with
  | droppedBusy w hin hq =>
    exact .inl ⟨⟨w, hin, .inl hq⟩, _, State.raiseCmdError_faultRecord _ _ _, flagOf_raiseCmdError _ _ _⟩
  | droppedIllegal w e hin hq hd =>
    exact .inl ⟨⟨w, hin, .inr ⟨e, hd⟩⟩, _, State.raiseCmdError_faultRecord _ _ _, flagOf_raiseCmdError _ _ _⟩
  | reset hin => exact .inr ⟨by simp [WordDropped, hin], rfl⟩
  | setbrt w level hin hq hd => exact .inr ⟨not_wordDropped_of_ok hin hq hd, rfl⟩
  | ldslot w slot mask hin hq hd => exact .inr ⟨not_wordDropped_of_ok hin hq hd, rfl⟩
  | setseg w len pos hin hq hd => exact .inr ⟨not_wordDropped_of_ok hin hq hd, rfl⟩
  | clrst hin hq => exact .inr ⟨not_wordDropped_of_ok (i := .clrst) hin hq rfl, rfl⟩
  | transport op rest hin => exact .inr ⟨not_wordDropped_of_turn hin, rfl⟩
  | microOp u rest hin =>
    obtain ⟨-, -, -, -, -, -, -, -, hrecord⟩ := perform_frame u s.inputTaken
    exact .inr ⟨not_wordDropped_of_turn hin, hrecord⟩
  | idle hin => exact .inr ⟨not_wordDropped_of_turn hin, rfl⟩

/-! ## Words presented to a busy block -/

/-- An update of the inputs, ERR_BUSY and the fault record alone, as taking an input and dropping a word while busy are. -/
def State.mapOutside (is : List Input → List Input) (busy : Bool → Bool) (record : List FaultEntry → List FaultEntry)
    (s : State) : State :=
  { s with inputs := is s.inputs, errBusy := busy s.errBusy, faultRecord := record s.faultRecord }

/-- Line micro-ops neither read nor write the inputs, ERR_BUSY and the fault record. -/
theorem perform_mapOutside (u : MicroOp) (s : State) (is : List Input → List Input) (busy : Bool → Bool)
    (record : List FaultEntry → List FaultEntry) :
    perform u (s.mapOutside is busy record) = (perform u s).mapOutside is busy record := by
  cases u with
  | drvlo l => cases l <;> rfl
  | rel l => cases l <;> rfl
  | wait => rfl
  | sample => obtain ⟨_, _ | _⟩ := s <;> rfl
  | drvloIfAck => obtain ⟨_, _, _, _, _ | _⟩ := s <;> rfl

section
variable (q : List MicroOp) (s : State)

theorem performs_mapOutside (is : List Input → List Input) (busy : Bool → Bool) (record : List FaultEntry → List FaultEntry) :
    performs q (s.mapOutside is busy record) = (performs q s).mapOutside is busy record := by
  induction q generalizing s with
  | nil => rfl
  | cons u q ih => rw [performs_cons, perform_mapOutside, ih, performs_cons]

theorem performs_setInputs (is : List Input) : performs q (s.setInputs is) = (performs q s).setInputs is :=
  performs_mapOutside q s (fun _ => is) id id

theorem performs_raiseBusy (w : CmdWord) : performs q (s.raiseCmdError .busy w) = (performs q s).raiseCmdError .busy w :=
  performs_mapOutside q s id (fun _ => true) (· ++ [FaultEntry.mk .busy w])

end

/-- What one input does to a busy block beside the sequencer's work: a word presented is dropped (43_commands.md R105). -/
def State.dropWord (s : State) : Input → State
  | .present w => s.raiseCmdError .busy w
  | .reset | .idle => s

/-- The state with all the words of a list of inputs dropped. -/
def State.dropWords (is : List Input) (s : State) : State := is.foldl State.dropWord s

section
variable (is : List Input) (s : State)

@[simp] theorem State.dropWords_nil : s.dropWords [] = s := rfl
@[simp] theorem State.dropWords_present (w : CmdWord) :
    s.dropWords (.present w :: is) = (s.raiseCmdError .busy w).dropWords is := rfl
@[simp] theorem State.dropWords_idle : s.dropWords (.idle :: is) = s.dropWords is := rfl
@[simp] theorem State.dropWords_reset : s.dropWords (.reset :: is) = s.dropWords is := rfl

/-- Dropping words changes ERR_BUSY and the fault record only. -/
theorem State.dropWords_frame : { s.dropWords is with errBusy := s.errBusy, faultRecord := s.faultRecord } = s := by
  induction is generalizing s with
  | nil => rfl
  | cons i is ih =>
    cases i with
    | present w =>
      have h := ih (s.raiseCmdError .busy w)
      exact congrArg (fun t : State => { t with errBusy := s.errBusy, faultRecord := s.faultRecord }) h
    | reset | idle => exact ih s

theorem State.dropWords_errBusy : (s.dropWords is).errBusy = true ↔ s.errBusy = true ∨ ∃ w, Input.present w ∈ is := by
  induction is generalizing s with
  | nil => simp
  | cons i is ih => cases i <;> simp [ih]

/-- Every input but the idle ones is a dropped word with its entry, when no reset is among them. -/
theorem State.dropWords_faultRecord_length (hreset : ∀ i ∈ is, i ≠ .reset) :
    (s.dropWords is).faultRecord.length + is.count .idle = s.faultRecord.length + is.length := by
  induction is generalizing s with
  | nil => simp
  | cons i is ih =>
    obtain ⟨hi, his⟩ := List.forall_mem_cons.mp hreset
    cases i with
    | present w =>
      rw [State.dropWords_present, List.count_cons_of_ne (by simp), ih _ his, State.raiseCmdError_faultRecord]
      simp [Nat.add_right_comm, Nat.add_assoc]
    | reset => exact absurd rfl hi
    | idle => rw [State.dropWords_idle, List.count_cons_self, ← Nat.add_assoc, ih s his, List.length_cons, Nat.add_assoc]

end

/-- A word presented to a busy block is dropped, and the next input waits. -/
theorem step_presented_busy {s : State} (hq : s.uq ≠ []) (w : CmdWord) (is : List Input) :
    step (s.setInputs (.present w :: is)) = .next ((s.raiseCmdError .busy w).setInputs is) :=
  step_of_stepTo (s := s.setInputs (.present w :: is)) (.droppedBusy w rfl hq)

/-- An idle input gives the sequencer its turn, and the next input waits. -/
theorem step_idle_busy {s : State} {u : MicroOp} {rest : List MicroOp} (hp : s.prog = []) (hq : s.uq = u :: rest)
    (is : List Input) : step (s.setInputs (.idle :: is)) = .next (((perform u s).setUq rest).setInputs is) := by
  have hturn : step (s.setInputs (.idle :: is)) = .next ((perform u (s.setInputs is)).setUq rest) :=
    step_of_stepTo (s := s.setInputs (.idle :: is)) (.microOp u rest rfl hp hq)
  rw [hturn, show perform u (s.setInputs is) = (perform u s).setInputs is from performs_setInputs [u] s is]
  rfl

/-- The run of a queue with words presented between its steps: with an idle input for each micro-op, no reset and an idle input
last, the block is busy whenever a word arrives, so the queue is performed and the words are dropped (60_exceptions.md R148). -/
theorem runSteps_interrupted (is : List Input) {s : State} (hp : s.prog = []) (hreset : ∀ i ∈ is, i ≠ .reset)
    (hcount : is.count .idle = s.uq.length) (hlast : ∀ i, is.getLast? = some i → i = .idle) :
    runSteps is.length (s.setInputs is) = .next ((((performs s.uq s).setUq []).setInputs []).dropWords is) := by
  induction is generalizing s with
  | nil =>
    have hq : s.uq = [] := List.eq_nil_of_length_eq_zero hcount.symm
    rw [hq, performs_nil, State.setUq_self hq]
    rfl
  | cons i is ih =>
    obtain ⟨hi, his⟩ := List.forall_mem_cons.mp hreset
    have hlast' : ∀ j, is.getLast? = some j → j = .idle := fun j hj => hlast j (by simp [List.getLast?_cons, hj])
    rw [List.length_cons]
    cases i with
    | reset => exact absurd rfl hi
    | present w =>
      have hne := List.cons_ne_nil (Input.present w) is
      have hidle : .idle ∈ .present w :: is := hlast _ (List.getLast?_eq_some_getLast hne) ▸ List.getLast_mem hne
      have hq : s.uq ≠ [] := List.ne_nil_of_length_pos (hcount ▸ List.count_pos_iff.mpr hidle)
      rw [runSteps_succ _ (step_presented_busy hq w is), ih (by simpa using hp) his (by simpa using hcount) hlast',
        State.raiseCmdError_uq, performs_raiseBusy]
      rfl
    | idle =>
      obtain ⟨u, rest, hq⟩ := List.exists_cons_of_length_pos (l := s.uq) (by simp [← hcount])
      obtain ⟨-, hprog, -⟩ := perform_frame u s
      rw [runSteps_succ _ (step_idle_busy hp hq is), ih (s := (perform u s).setUq rest) (hprog.trans hp) his
          (by simpa [hq] using hcount) hlast',
        performs_setUq, hq]
      rfl

end Sys2Proof.Machine

/-! ## The statements -/

namespace Sys2Proof

open Machine

/-- Settles O38: whatever the outside's next input, what it makes the block do answers. -/
theorem everyStepAnswersANextState : Obligations.EveryStepAnswersANextState := by
  unfold Obligations.EveryStepAnswersANextState
  intro s
  cases hi : s.inputs with
  | nil => rw [step_quiet hi]; exact sequence_answers s
  | cons i rest =>
    cases i with
    | present w => rw [step_present hi]; exact accept_answers w _
    | reset => exact ⟨_, step_resetInput hi⟩
    | idle => rw [step_idleInput hi]; exact sequence_answers _

/-- Settles O47: only a line micro-op and a reset write the trace, and both append to it; the fault record is kept or gets one
entry. -/
theorem traceAndFaultRecordOnlyGrow : Obligations.TraceAndFaultRecordOnlyGrow := by
  unfold Obligations.TraceAndFaultRecordOnlyGrow
  intro s t hstep
  have hs := stepTo_of_step hstep
  constructor
  · cases hs with
    | reset => exact List.prefix_append _ _
    | microOp u rest => exact perform_trace_prefix s.inputTaken u
    | droppedBusy | droppedIllegal | setbrt | ldslot | setseg | clrst | transport | idle => simp
  · obtain ⟨-, e, hrecord, -⟩ | ⟨-, hrecord⟩ := hs.faultRecord_cases
    · exact ⟨[e], hrecord.symm⟩
    · exact hrecord ▸ List.prefix_rfl

/-- Settles O48: the step drops a word and records it with its flag set, or neither. -/
theorem faultRecordGrowsExactlyWithDroppedWords : Obligations.FaultRecordGrowsExactlyWithDroppedWords := by
  unfold Obligations.FaultRecordGrowsExactlyWithDroppedWords
  intro s t _ hstep
  obtain ⟨hdrop, e, hrecord, hflag⟩ | ⟨hkept, hrecord⟩ := (stepTo_of_step hstep).faultRecord_cases
  · refine ⟨.inr ⟨e, hrecord⟩, iff_of_true ⟨e, hrecord⟩ hdrop, fun e' he' => ?_⟩
    obtain rfl : e = e' := by simpa [hrecord] using he'
    exact hflag
  · have hno : ∀ e, t.faultRecord ≠ s.faultRecord ++ [e] := by simp [hrecord]
    exact ⟨.inl hrecord, iff_of_false (fun ⟨e, he⟩ => hno e he) hkept, fun e he => absurd he (hno e)⟩

/-- Settles O3: the reset step writes none of these fields but `prog`. -/
theorem resetStepKeepsTheRecordAndTheOutside : Obligations.ResetStepKeepsTheRecordAndTheOutside := by
  unfold Obligations.ResetStepKeepsTheRecordAndTheOutside
  intro s rest hi
  exact ⟨_, step_resetInput hi, rfl, rfl, rfl, rfl, rfl⟩

/-- Settles O37: the undisturbed run performs the queue, and the words presented meanwhile are dropped from its end state. -/
theorem wordsPresentedMeanwhileDoNotDisturbTheUpdate : Obligations.WordsPresentedMeanwhileDoNotDisturbTheUpdate := by
  unfold Obligations.WordsPresentedMeanwhileDoNotDisturbTheUpdate
  intro s hp hreset hcount hlast
  have hv := runSteps_queue (s := s.setInputs []) s.uq [] hp rfl (List.append_nil _).symm
  rw [performs_setInputs] at hv
  obtain ⟨-, -, -, -, -, -, hbusy, -, hrecord⟩ := performs_frame s.uq s
  refine ⟨_, _, runSteps_interrupted s.inputs hp hreset hcount hlast, hv, rfl, rfl, State.dropWords_frame _ _, ?_, ?_⟩
  · exact hbusy ▸ State.dropWords_errBusy s.inputs _
  · exact hcount ▸ hrecord ▸ State.dropWords_faultRecord_length s.inputs _ hreset

end Sys2Proof
end

section
/-! PROOFS. Reset: what a reset step leaves in the block's registers, and the invariants in the state after reset
(70_reset_and_hazards.md section 1). -/

/-! ## The state of an idle block -/

namespace Sys2Proof

open Machine

/-- With nothing queued the discipline asks for the released lines only (43_commands.md R115). -/
theorem Inv.of_idle {s : State} (hp : s.prog = []) (hq : s.uq = []) (hbus : BusReleased s) : Inv s := by
  obtain ⟨hclk, hdio⟩ := hbus
  refine ⟨hp, ?_⟩
  rw [hq, hdio]
  exact ⟨hclk, rfl⟩

/-- The empty queue is what remains of an update that was performed to its end. -/
theorem QueueFromUpdate.of_idle {s : State} (hp : s.prog = []) (hq : s.uq = []) : QueueFromUpdate s :=
  ⟨hp, s.frame, s.brightness, 0#3, 0#8, Nat.zero_le _, hq ▸ List.nil_suffix⟩

end Sys2Proof

/-! ## What a reset step leaves in the registers -/

namespace Sys2Proof.Machine.State

variable (s : State)

@[simp] theorem resetStep_slot (i : BitVec 2) : s.resetStep.slot i = 0x00#8 := by
  simp [slot]

/-- BUSY 0 and ACK_LAST 1, the other bits 0 (10_state.md R30, 70_reset_and_hazards.md R151). -/
@[simp] theorem resetStep_status : s.resetStep.status = 0x02#8 := by
  simp [status, busy]

@[simp] theorem outLatch_eq_zero (l : Line) : s.outLatch l = 0#1 := rfl

end Sys2Proof.Machine.State

/-! ## The statements -/

namespace Sys2Proof

open Machine

/-- Settles O2: a step with a reset as its input is the reset step, whose registers are read one by one. -/
theorem resetStepSetsEveryPieceOfState : Obligations.ResetStepSetsEveryPieceOfState := by
  unfold Obligations.ResetStepSetsEveryPieceOfState
  intro s rest hi
  refine ⟨(s.setInputs rest).resetStep, step_resetInput hi, ?_⟩
  simp

/-- Settles O39: the block is idle after reset, with both lines released. -/
theorem invariantHoldsAtReset : Obligations.InvariantHoldsAtReset := by
  unfold Obligations.InvariantHoldsAtReset
  exact ⟨Inv.of_idle rfl rfl ⟨rfl, rfl⟩, QueueFromUpdate.of_idle rfl rfl⟩

end Sys2Proof
end

section
/-! PROOFS. The state after reset, and an instruction placed from its number in the opcode table (70_reset_and_hazards.md
section 1, 30_encoding.md sections 2 and 4). -/

/-! ## The numbers of the opcode table -/

namespace Sys2Proof

theorem CodeWord.toNat_lt (c : CodeWord) : c.toNat < 2 ^ 16 := by
  cases c with
  | cmd16 w => exact w.isLt
  | uop12 w => exact Nat.lt_trans w.isLt (by decide)

/-- A micro-word is read back from its number (notes/assumptions/9.md). -/
theorem tableCodeWord_uop12 (w : UopWord) : tableCodeWord 16 w.toNat = .uop12 w := by
  have hmod : w.toNat % 2 ^ 16 = w.toNat := Nat.mod_eq_of_lt (CodeWord.uop12 w).toNat_lt
  simp only [tableCodeWord, hmod, w.isLt, if_true, BitVec.ofNat_toNat, BitVec.setWidth_eq]

/-- A host word is read back from its number unless its opcode is 0, which no command's is (30_encoding.md R72 (a)). -/
theorem tableCodeWord_cmd16 {w : CmdWord} (hop : 2 ^ 12 ≤ w.toNat) : tableCodeWord 16 w.toNat = .cmd16 w := by
  have hmod : w.toNat % 2 ^ 16 = w.toNat := Nat.mod_eq_of_lt w.isLt
  simp only [tableCodeWord, hmod, Nat.not_lt.mpr hop, if_false, BitVec.ofNat_toNat, BitVec.setWidth_eq]

/-- The number of an instruction's word is read as that word, by the format of the instruction's row. -/
theorem tableCodeWord_encode (i : Instr) : tableCodeWord 16 (encode i).toNat = encode i := by
  cases i with
  | setbrt level => exact tableCodeWord_cmd16 (by rw [toNat_setbrtWord]; omega)
  | ldslot slot mask => exact tableCodeWord_cmd16 (by rw [toNat_ldslotWord]; omega)
  | setseg len pos => exact tableCodeWord_cmd16 (by rw [toNat_setsegWord]; omega)
  | clrst => exact tableCodeWord_cmd16 (by decide)
  | drvlo | rel | wait | sample | drvloIfAck | start | stop | wrb => exact tableCodeWord_uop12 _

/-- The table decoder reads an instruction from the number of its word. -/
theorem decodeTableWord_encode {i : Instr} (hi : i.wellFormed = true) : decodeTableWord 16 (encode i).toNat = some i := by
  rw [decodeTableWord, if_pos (encode i).toNat_lt, tableCodeWord_encode, decodeOfEncodeIsTheInstruction i hi]
  rfl

end Sys2Proof

/-! ## The step of a placed word -/

namespace Sys2Proof.Machine

@[simp] theorem microOpOf_microOp (u : MicroOp) : microOpOf u.toInstr = some u := by cases u <;> rfl
@[simp] theorem microOpOf_transportOp (t : TransportOp) : microOpOf t.toInstr = none := by cases t <;> rfl
@[simp] theorem transportOpOf_transportOp (t : TransportOp) : transportOpOf t.toInstr = some t := by cases t <;> rfl

/-- A micro-word labels a line micro-op or a transport operation, and no host command (30_encoding.md R77, R78). -/
theorem decodeUop_ok_cases {w : UopWord} {i : Instr} (h : decodeUop w = .ok i) :
    (∃ u : MicroOp, i = u.toInstr) ∨ ∃ t : TransportOp, i = t.toInstr := by
  obtain ⟨-, hword⟩ := encode_of_decodeUop h
  cases i with
  | setbrt | ldslot | setseg | clrst => cases hword
  | drvlo l => exact .inl ⟨.drvlo l, rfl⟩
  | rel l => exact .inl ⟨.rel l, rfl⟩
  | wait => exact .inl ⟨.wait, rfl⟩
  | sample => exact .inl ⟨.sample, rfl⟩
  | drvloIfAck => exact .inl ⟨.drvloIfAck, rfl⟩
  | start => exact .inr ⟨.start, rfl⟩
  | stop => exact .inr ⟨.stop, rfl⟩
  | wrb b => exact .inr ⟨.wrb b, rfl⟩

variable (s : State)

theorem State.placeCodeWord_microOp {w : UopWord} {u : MicroOp} (h : decodeUop w = .ok u.toInstr) :
    s.placeCodeWord (.uop12 w) = ((s.setProg []).setUq (u :: s.uq)).setInputs (.idle :: s.inputs) := by
  simp [placeCodeWord, h]

theorem State.placeCodeWord_transportOp {w : UopWord} {t : TransportOp} (h : decodeUop w = .ok t.toInstr) :
    s.placeCodeWord (.uop12 w) = (s.setProg (t :: s.prog)).setInputs (.idle :: s.inputs) := by
  simp [placeCodeWord, h]

/-- A placed host word is taken at the emptied command port. -/
theorem step_placed_cmd16 {w : CmdWord} {i : Instr} (h : decodeCmd w = .ok i) :
    step (s.placeCodeWord (.cmd16 w)) = exec i ((s.setProg []).setUq []) :=
  (step_present rfl).trans (accept_legal (s := (s.setProg []).setUq []) rfl h)

/-- A placed line micro-op is the head of `uq`, and the step removes it again. -/
theorem step_placed_microOp {w : UopWord} {u : MicroOp} (h : decodeUop w = .ok u.toInstr) :
    step (s.placeCodeWord (.uop12 w)) = exec u.toInstr (s.setProg []) := by
  rw [s.placeCodeWord_microOp h, step_idleInput rfl]
  exact sequence_uq (u := u) (rest := s.uq) rfl rfl

/-- A placed transport operation is the head of `prog`, and the step removes it again. -/
theorem step_placed_transportOp {w : UopWord} {t : TransportOp} (h : decodeUop w = .ok t.toInstr) :
    step (s.placeCodeWord (.uop12 w)) = exec t.toInstr s := by
  rw [s.placeCodeWord_transportOp h, step_idleInput rfl]
  exact sequence_prog (t := t) (rest := s.prog) rfl

/-- A placed word that decodes is what the next step runs, on the state but for its queue and the model's own program. -/
theorem step_placed {c : CodeWord} {i : Instr} (h : decode c = .ok i) :
    ∃ s', step (s.placeCodeWord c) = exec i s' ∧ { s' with uq := s.uq, prog := s.prog } = s := by
  cases c with
  | cmd16 w => exact ⟨_, step_placed_cmd16 s h, rfl⟩
  | uop12 w =>
    obtain ⟨u, rfl⟩ | ⟨t, rfl⟩ := decodeUop_ok_cases h
    · exact ⟨_, step_placed_microOp s h, rfl⟩
    · exact ⟨_, step_placed_transportOp s h, rfl⟩

end Sys2Proof.Machine

/-! ## The statements -/

namespace Sys2Proof

open Machine

/-- Settles O11: the number is read as the instruction's own word, and a placed word that decodes is run. -/
theorem placedInstructionIsRunNext : Obligations.PlacedInstructionIsRunNext := by
  unfold Obligations.PlacedInstructionIsRunNext
  intro s i hi
  refine ⟨decodeTableWord_encode hi, ?_⟩
  rw [State.withFetchWord, tableCodeWord_encode]
  exact step_placed s (decodeOfEncodeIsTheInstruction i hi)

/-- Settles O1: the values are those of the definition; FRAME's slots and STATUS are what a reset step leaves in them. -/
theorem resetStateHoldsSpecValues : Obligations.ResetStateHoldsSpecValues := by
  unfold Obligations.ResetStateHoldsSpecValues
  exact ⟨rfl, rfl, rfl, rfl, State.reset.resetStep_slot, State.reset.resetStep_status, State.reset.outLatch_eq_zero, rfl, rfl⟩

end Sys2Proof
end
